-- ==== Sys2Proof/Word.lean ====
section
/-! DEFINITION. The words of the BAC24 and their plainest arithmetic: bytes, 32-bit stamps, slot and supply
numbers, and counters that saturate. -/
namespace Sys2Proof

/-- One byte of a frame (R156). -/
abbrev Byte := BitVec 8

/-- The 16-bit check of a frame (R156), and a set of event kinds as it is carried. -/
abbrev Word16 := BitVec 16

/-- The uptime and every stamp taken from it: 32 bits, wrapping (R181). -/
abbrev Word32 := BitVec 32

/-- A slot. Slot number n of the manual (1 to 24) is the index n - 1. -/
abbrev SlotId := Fin 24

/-- A supply. Supply number n of the manual (1 to 4) is the index n - 1. -/
abbrev SupplyId := Fin 4

/-- The number the manual and the frames give a slot: 1 to 24. -/
def slotNumber (i : SlotId) : Nat := i.val + 1

/-- All slots, in slot-number order. -/
def allSlots : List SlotId := List.finRange 24

/-- A counter raised by 1 that stays at `top` once there ("saturates", Conventions). -/
def satInc (top n : Nat) : Nat := min top (n + 1)

/-- The highest value of the 32-bit saturating stamp counters (R26, R39). -/
def stampTop : Nat := 4294967295

end Sys2Proof
end

