-- ==== Sys2Proof/Config.lean ====
section
/-! DEFINITION. What an implementation fixes and the manual leaves open: one free value, with no body. -/
namespace Sys2Proof

/-- FREE VALUE (log 2). Where several happenings are due at one tick, "either may be taken first" (for example R89, R98,
R106, R120), and an accepted request is executed in a happening that R162 binds to no tick. The n-th time the part has to
choose, the number `choice n` says which of the happenings it takes, or that a tick comes first. Nothing constrains it, so
a claim holds whatever the part chooses. -/
opaque Config.choice : Nat → Nat

end Sys2Proof
end

