-- ==== Sys2Proof/Syntax.lean ====
section
/-! DEFINITION. The commands of the BAC24: one constructor for each row of the table of operations and events, with
the operands its row needs. -/
namespace Sys2Proof

/-- A rail of a bay (R94). -/
inductive Rail where
  | aux | main
  deriving DecidableEq, Repr

/-- One of the two blink patterns (R136). -/
inductive Pattern where
  | slow | fast
  deriving DecidableEq, Repr

/-- The commands. Each is one happening, taken whole.

The first 27 are executions of requests (R162): the operands are the tag and the payload of the request that is
executed. The others are happenings of the link, of the lines (in their debounced form) and of the time base. The operands are
the model's, for the table gives none (DESIGN CHOICE, log 26). -/
inductive Instr where
  /-- Executes an IDENTIFY request (R173). -/
  | identify (tag : Byte) (payload : List Byte)
  /-- Executes a GRANT request (R151). -/
  | grant (tag : Byte) (payload : List Byte)
  /-- Executes a READ-LINK request (R167). -/
  | readLink (tag : Byte) (payload : List Byte)
  /-- Executes a SET-NOTICES request (R149). -/
  | setNotices (tag : Byte) (payload : List Byte)
  /-- Executes a READ-SLOT request (R176). -/
  | readSlot (tag : Byte) (payload : List Byte)
  /-- Executes a READ-QUEUE request (R177). -/
  | readQueue (tag : Byte) (payload : List Byte)
  /-- Executes a READ-BUDGET request (R178). -/
  | readBudget (tag : Byte) (payload : List Byte)
  /-- Executes a READ-EVENTS request (R147). -/
  | readEvents (tag : Byte) (payload : List Byte)
  /-- Executes an ACK-EVENTS request (R146). -/
  | ackEvents (tag : Byte) (payload : List Byte)
  /-- Executes a READ-PROFILE request (R53). -/
  | readProfile (tag : Byte) (payload : List Byte)
  /-- Executes a POWER-ON request (R21, R22). -/
  | powerOn (tag : Byte) (payload : List Byte)
  /-- Executes a POWER-OFF request (R63 to R68). -/
  | powerOff (tag : Byte) (payload : List Byte)
  /-- Executes a CLEAR-FAULT request (R102, R103). -/
  | clearFault (tag : Byte) (payload : List Byte)
  /-- Executes a LOCK request (R124). -/
  | lock (tag : Byte) (payload : List Byte)
  /-- Executes an UNLOCK request (R124). -/
  | unlock (tag : Byte) (payload : List Byte)
  /-- Executes a SET-INDICATOR request (R135). -/
  | setIndicator (tag : Byte) (payload : List Byte)
  /-- Executes a SET-SLOT request (R179, R180). -/
  | setSlot (tag : Byte) (payload : List Byte)
  /-- Executes a SET-HARDWARE request (R127 to R129). -/
  | setHardware (tag : Byte) (payload : List Byte)
  /-- Executes a SET-SUPPLY request (R17). -/
  | setSupply (tag : Byte) (payload : List Byte)
  /-- Executes a SET-BUDGET request (R18, R19). -/
  | setBudget (tag : Byte) (payload : List Byte)
  /-- Executes a SET-PROFILE request (R52). -/
  | setProfile (tag : Byte) (payload : List Byte)
  /-- Executes a SET-CLASSES request (R20). -/
  | setClasses (tag : Byte) (payload : List Byte)
  /-- Executes a SET-BLINK request (R137). -/
  | setBlink (tag : Byte) (payload : List Byte)
  /-- Executes a GATE request (R33). -/
  | gate (tag : Byte) (payload : List Byte)
  /-- Executes a FREEZE request (R174). -/
  | freeze (tag : Byte) (payload : List Byte)
  /-- Executes a RESTART request (R175). -/
  | restart (tag : Byte) (payload : List Byte)
  /-- Executes a request whose KIND is no request code (R162). -/
  | badKind (tag kind : Byte) (payload : List Byte)
  /-- A character with its stop bit at mark has been received on LINK_RX (R156, R157). -/
  | byteReceived (b : Byte)
  /-- A character with its stop bit at space, the line having returned to mark (R156). -/
  | characterWithoutStopBit
  /-- The gap count reaches 11 ms (R158). -/
  | gapAbort
  /-- LINK_RX has been held at space for 20 bit times (R164). -/
  | linkReset
  /-- The end of the last byte of the frame being sent (R163). -/
  | frameEnd
  /-- A supply's debounced GOOD changes to `good` (R7). -/
  | supplyGoodChange (n : SupplyId) (good : Bool)
  /-- The admission pass (R36, R37). -/
  | admissionPass
  /-- The debounced AUX_GOOD rises (R56). -/
  | auxGoodRises (i : SlotId)
  /-- The debounced MAIN_GOOD rises (R57). -/
  | mainGoodRises (i : SlotId)
  /-- The settle timer expires (R58). -/
  | settleTimeEnds (i : SlotId)
  /-- The debounced READY rises (R59). -/
  | readyRises (i : SlotId)
  /-- A stage end that was due at once is taken (R51). -/
  | stageDueEnd (i : SlotId)
  /-- The deadline of AUX_RAMP, MAIN_RAMP or READY_WAIT expires (R61). -/
  | stageDeadlineExpiry (i : SlotId)
  /-- The debounced READY falls (R71). -/
  | readyFalls (i : SlotId)
  /-- The drain grace deadline expires (R72). -/
  | drainGraceExpiry (i : SlotId)
  /-- A drain end that was due at once is taken (R70). -/
  | drainDueEnd (i : SlotId)
  /-- The debounced FAULT line rises (R95). -/
  | faultLineRises (i : SlotId)
  /-- An OVERCURRENT made due at an admission is taken (R95). -/
  | overcurrentDue (i : SlotId)
  /-- The debounced AUX_GOOD or MAIN_GOOD falls (R94). -/
  | railGoodFalls (i : SlotId) (rail : Rail)
  /-- A RAIL_LOST made due at a delayed stage end is taken (R94). -/
  | railLostDue (i : SlotId) (rail : Rail)
  /-- The debounced presence becomes present, with CLASS0 and CLASS1 at the levels given (R110, R111). -/
  | insertion (i : SlotId) (class0 class1 : Bool)
  /-- The debounced presence is lost (R112, R113, R97). -/
  | removal (i : SlotId)
  /-- The debounced lever changes to closed or open (R115). -/
  | leverChange (i : SlotId) (closed : Bool)
  /-- The debounced button changes from released to pressed (R116, R117). -/
  | buttonPress (i : SlotId)
  /-- The hold-off window expires (R118). -/
  | holdOffExpiry (i : SlotId)
  /-- The debounced lock sense changes to engaged or released (R123). -/
  | lockSenseChange (i : SlotId) (engaged : Bool)
  /-- The 500 ms lock deadline expires (R126). -/
  | lockDeadlineExpiry (i : SlotId)
  /-- A lock end that was due at once is taken (R126). -/
  | lockDueEnd (i : SlotId)
  /-- A blink pattern reaches its period boundary (R138). -/
  | blinkPeriodBoundary (p : Pattern)
  /-- A blink pattern leaves its on-time (R132). -/
  | blinkOnTimeEnd (p : Pattern)
  /-- Power-on, with the straps RATE_A and RATE_B at the levels given (R182, R156). -/
  | powerOnReset (rateA rateB : Bool)
  /-- The debounced RESTART line rises (R183). -/
  | restartLineRise
  /-- The restart asked for by a RESTART request is taken (R184). -/
  | requestedRestart
  deriving DecidableEq, Repr

end Sys2Proof
end

