-- ==== Sys2Proof/Machine/State.lean ====
section
/-! DEFINITION. The state of the BAC24 as plain data, every piece of it that the manual names, and the state right
after a power-on reset (R182). -/
namespace Sys2Proof.Machine

/-! ### Named values -/

/-- The ten states of a slot (R43), in the order of their codes (R156). -/
inductive PowerState where
  | vacant | idle | waiting | auxRamp | mainRamp | settle | readyWait | on | drain | faulted
  deriving DecidableEq, Repr

/-- The kinds of operation (R46). -/
inductive OpKind where
  | powerOn | powerOff | lock | unlock
  deriving DecidableEq, Repr

/-- What started an operation (R46). -/
inductive Origin where
  | host | button | auto | restore
  deriving DecidableEq, Repr

/-- The outcomes of operations (R49), in the order of their codes (R156). -/
inductive OutcomeKind where
  | done | cancelled | aborted | fault | shed | removed | drainExpired | forced | lockTimeout | leverOpen
  | refused | discarded
  deriving DecidableEq, Repr

/-- The reply statuses (R156). -/
inductive Status where
  | ok | accepted | done | already | busy | inUse | disabled | noModule | faulted | leverOpen | notLocked | noLock
  | frozen | overCommitted | badSlot | badValue | badKind | badLength | badCheck | badTag | dupTag | portFull
  deriving DecidableEq, Repr

/-- The fault kinds (R91), in the order of their codes (R169). -/
inductive FaultKind where
  | auxTimeout | mainTimeout | readyTimeout | railLost | overcurrent | leverOpen | removedLive
  deriving DecidableEq, Repr

/-- The eleven event kinds (R140), in the order of their codes (R156). -/
inductive EventKind where
  | inserted | removed | button | lever | lock | opDone | fault | shed | supply | ceiling | restarted
  deriving DecidableEq, Repr

/-- The indicator modes (R131). -/
inductive IndMode where
  | off | on | blinkSlow | blinkFast
  deriving DecidableEq, Repr

/-- The button policies (R116). -/
inductive ButtonPolicy where
  | eventOnly | toggle
  deriving DecidableEq, Repr

/-- The three values of a lock drive (R123). -/
inductive LockDrive where
  | none | engage | release
  deriving DecidableEq, Repr

/-- The budget modes (R3). -/
inductive BudgetMode where
  | full | redundant
  deriving DecidableEq, Repr

/-- The admission policies (R34). -/
inductive Policy where
  | strict | fit
  deriving DecidableEq, Repr

/-- The settings of the gate (R32). -/
inductive Gate where
  | opened | held
  deriving DecidableEq, Repr

/-- The restart causes (R181). -/
inductive RestartCause where
  | powerOn | restartLine | restartRequest
  deriving DecidableEq, Repr

/-- The restart a RESTART request has asked for: none; asked for, its reply frame not yet ended; or due to be taken.
`keepPower` is the form: ride-through when true, full when false (R175, R184). -/
inductive RestartAsk where
  | none
  | asked (keepPower : Bool)
  | due (keepPower : Bool)
  deriving DecidableEq, Repr

/-! ### Lines -/

/-- A sampled input line: the level at its pin, the debounced value the part acts on, and for how many consecutive
ticks the pin has been sampled at the opposite of that value (R2, R45, R92, R109, R183). True is asserted: present,
closed, pressed, engaged, good. -/
structure Line where
  level : Bool
  held : Bool
  count : Nat
  deriving DecidableEq, Repr

/-- The input lines of one bay (R45, R92, R109, R110). -/
structure BayLines where
  present : Line
  lever : Line
  button : Line
  lockSense : Line
  auxGood : Line
  mainGood : Line
  ready : Line
  fault : Line
  class0 : Bool
  class1 : Bool
  deriving DecidableEq, Repr

/-! ### The slot record -/

/-- An operation in flight (R46). -/
structure Operation where
  kind : OpKind
  ticket : Nat
  origin : Origin
  start : Word32
  deriving DecidableEq, Repr

/-- The last outcome (R49). -/
structure LastOutcome where
  kind : OpKind
  ticket : Nat
  origin : Origin
  outcome : OutcomeKind
  refusal : Option Status
  stamp : Word32
  deriving DecidableEq, Repr

/-- A commitment (R11): the amount in tenths of a watt. -/
structure Commitment where
  amount : Nat
  stamp : Nat
  inrush : Bool
  deriving DecidableEq, Repr

/-- A last-fault record (R91). -/
structure FaultRecord where
  kind : FaultKind
  state : PowerState
  ticket : Nat
  stamp : Word32
  deriving DecidableEq, Repr

/-- The four indicator settings (R131). -/
structure Lamps where
  powerHost : IndMode
  powerAuto : Bool
  attnHost : IndMode
  attnAuto : Bool
  deriving DecidableEq, Repr

/-- What the part drives or shows for one slot: the pins AUX_EN, MAIN_EN and STOP (R44), the lock drive (R123), the
effective indicator modes (R131) and the pins PWR_IND and ATTN_IND (R132). -/
structure SlotOutputs where
  auxEn : Bool
  mainEn : Bool
  stop : Bool
  lockDrive : LockDrive
  powerMode : IndMode
  attnMode : IndMode
  pwrInd : Bool
  attnInd : Bool
  deriving DecidableEq, Repr

/-- The hardware settings (R127). -/
structure Hardware where
  enabled : Bool
  lockFitted : Bool
  surpriseTolerant : Bool
  deriving DecidableEq, Repr

/-- The record of one slot ("The Slot Record"), its lines, its timers and its due marks. -/
structure Slot where
  hardware : Hardware
  lines : BayLines
  /-- The class read at insertion, absent without a module (R110). -/
  moduleClass : Option (Fin 4)
  buttonPolicy : ButtonPolicy
  autoStart : Bool
  autoPending : Bool
  /-- Hold-off remaining in ms (R117). -/
  holdOff : Option Nat
  power : PowerState
  profileIndex : Fin 4
  /-- Ready-required as last copied (R51). -/
  readyRequired : Bool
  /-- The stage deadline, settle timer or grace deadline: ms remaining; 0 while its expiry is due (R51). -/
  stageTimer : Option Nat
  /-- The end of the present stage or drain is due at once (R51, R70). -/
  endDue : Bool
  /-- An OVERCURRENT is due at once (R95). -/
  overcurrentDue : Bool
  /-- A RAIL_LOST of the AUX rail is due at once (R94). -/
  auxLostDue : Bool
  /-- A RAIL_LOST of the MAIN rail is due at once (R94). -/
  mainLostDue : Bool
  operation : Option Operation
  lastOutcome : Option LastOutcome
  /-- The lock deadline: ms remaining; 0 while its expiry is due (R124). -/
  lockTimer : Option Nat
  /-- The ticket of the lock operation whose end is due at once (R124, R126). -/
  lockEndDue : Option Nat
  /-- Tenths of a watt (R9). -/
  overrideDraw : Option Nat
  commitment : Option Commitment
  priority : Nat
  restoreAfterShed : Bool
  lastFault : Option FaultRecord
  faultCount : Nat
  lamps : Lamps
  /-- The slot's pending set: kind code k has the weight 2^(k-1) (R142, R156). -/
  pendingSet : Word16
  out : SlotOutputs
  deriving DecidableEq, Repr

/-! ### The other blocks -/

/-- A supply record (R1): the debounced state of the line is GOOD. -/
structure Supply where
  line : Line
  capacity : Nat
  stamp : Word32
  deriving DecidableEq, Repr

/-- The budget unit (chapter 1). Power is in tenths of a watt. -/
structure Budget where
  supplies : Vector Supply 4
  reserve : Nat
  mode : BudgetMode
  classDraws : Vector Nat 4
  ceiling : Nat
  committed : Nat
  deriving DecidableEq, Repr

/-- An entry of the admission queue (R25). -/
structure QueueEntry where
  slot : SlotId
  priority : Nat
  stamp : Nat
  origin : Origin
  ticket : Nat
  bypass : Nat
  heldForRise : Bool
  deriving DecidableEq, Repr

/-- The admission unit (chapter 2). `positions` is K; `inrushHeld` counts the positions held. -/
structure Admission where
  queue : List QueueEntry
  positions : Nat
  inrushHeld : Nat
  gate : Gate
  policy : Policy
  bypassLimit : Nat
  enqueueCounter : Nat
  admissionCounter : Nat
  passDue : Bool
  deriving DecidableEq, Repr

/-- A profile (R50): four timeout codes, the settle time in ms, and ready-required. -/
structure Profile where
  auxCode : Nat
  mainCode : Nat
  settleMs : Nat
  readyRequired : Bool
  readyCode : Nat
  graceCode : Nat
  deriving DecidableEq, Repr

/-- A blink pattern (R136). `waiting` holds the pending period and on-time. `crossing` is the model's own mark: the
raise of the phase at this tick leaves the on-time or wraps, and is a happening not yet taken (log 13). -/
structure BlinkPattern where
  period : Nat
  onTime : Nat
  phase : Nat
  waiting : Option (Nat × Nat)
  crossing : Bool
  deriving DecidableEq, Repr

/-- An entry of the notice queue (R143). `subject` is the slot, or none for slot 0. -/
structure Notice where
  subject : Option SlotId
  kind : EventKind
  count : Nat
  stamp : Word32
  deriving DecidableEq, Repr

/-- The event unit (chapter 8), but for the pending sets of slots 1 to 24, which stand in the slot records. -/
structure Events where
  pendingZero : Word16
  notices : List Notice
  overflow : Bool
  announced : Bool
  lostCount : Nat
  overflowStamp : Option Word32
  noticeMask : Word16
  alertMask : Word16
  /-- The ALERT pin (R150). -/
  alert : Bool
  deriving DecidableEq, Repr

/-- The receiver (R157): HUNT; HEADER before LEN, TAG and KIND; BODY with the bytes taken and the number still due;
CHECK before its high and its low byte. -/
inductive Receiver where
  | hunt
  | headerLen
  | headerTag (len : Byte)
  | headerKind (len tag : Byte)
  | body (len tag kind : Byte) (taken : List Byte) (due : Nat)
  | checkHigh (len tag kind : Byte) (payload : List Byte)
  | checkLow (len tag kind : Byte) (payload : List Byte) (high : Byte)
  deriving DecidableEq, Repr

/-- An entry of the request queue (R161). `reply` is absent until execution. -/
structure Request where
  tag : Byte
  kind : Byte
  payload : List Byte
  reply : Option (List Byte)
  deriving DecidableEq, Repr

/-- A frame that waits for the line: the reply of the request with a tag, or a reject in its holding place (R160,
R161). -/
inductive Ready where
  | reply (tag : Byte)
  | reject (status : Status) (tag : Byte)
  deriving DecidableEq, Repr

/-- The kind a notice carries: an event kind, or OVERFLOW (R140). -/
inductive NoticeKind where
  | event (k : EventKind)
  | overflow
  deriving DecidableEq, Repr

/-- The contents of a notice frame (R153). -/
structure NoticeFrame where
  subject : Option SlotId
  kind : NoticeKind
  count : Nat
  stamp : Word32
  state : Option PowerState
  ticket : Nat
  outcome : Option OutcomeKind
  deriving DecidableEq, Repr

/-- The frame being sent on LINK_TX (R163). A reply keeps the KIND of its request, so that the end of the RESTART
reply's frame is known (R162). -/
inductive TxFrame where
  | reply (kind tag : Byte) (payload : List Byte)
  | reject (status : Status) (tag : Byte)
  | notice (n : NoticeFrame)
  deriving DecidableEq, Repr

/-- The message port (chapter 9). -/
structure Port where
  linkRate : Nat
  receiver : Receiver
  gap : Nat
  /-- LINK_RX is still at the space of a link reset (R164). -/
  rxHeld : Bool
  requests : List Request
  /-- The reply list and the reject holding places, in the one order of production of R163. -/
  ready : List Ready
  sending : Option TxFrame
  credit : Nat
  framesAccepted : Nat
  checkFailures : Nat
  gapAborts : Nat
  lengthErrors : Nat
  droppedRejects : Nat
  /-- The model's own mark: a frame was made ready in the happening under way (R163, log 10). -/
  offerDue : Bool
  deriving DecidableEq, Repr

/-- The part-wide block (R181), with the RESTART line (R183), the requested restart (R184) and the straps (R156). -/
structure PartWide where
  uptime : Word32
  ticketCounter : Nat
  frozen : Bool
  restartCause : RestartCause
  restartLine : Line
  restartAsk : RestartAsk
  rateA : Bool
  rateB : Bool
  deriving DecidableEq, Repr

/-- An input pin of the part that is sampled on the time base or read as a strap ("Pins"). -/
inductive Pin where
  | supplyGood (n : SupplyId)
  | restart
  | rateA
  | rateB
  | present (i : SlotId)
  | class0 (i : SlotId)
  | class1 (i : SlotId)
  | lever (i : SlotId)
  | button (i : SlotId)
  | lockSense (i : SlotId)
  | auxGood (i : SlotId)
  | mainGood (i : SlotId)
  | ready (i : SlotId)
  | fault (i : SlotId)
  deriving DecidableEq, Repr

/-- The state of the whole part. `pending` is the queue of commands that wait, first in, first out; `wires` the
changes that the outside world makes at the pins before each coming tick (log 9); `choices` counts the choices made
among due happenings (log 2). -/
structure State where
  part : PartWide
  budget : Budget
  admission : Admission
  profiles : Vector Profile 4
  slots : Vector Slot 24
  /-- The part's hold-off time in seconds (R117). -/
  holdOffTime : Nat
  slow : BlinkPattern
  fast : BlinkPattern
  events : Events
  port : Port
  pending : List Instr
  wires : List (List (Pin × Bool))
  choices : Nat
  deriving DecidableEq, Repr

/-- Why a step faults. No command of this block does: the manual gives every happening its effect on the state, and
what it calls a fault (chapter 5) is such an effect (log 24). -/
inductive Fault where
  deriving DecidableEq, Repr

/-- Why a step is refused. No command of this block is; the constructor is the host's, for a row that has no meaning
yet. -/
inductive Refusal where
  /-- Raised by an arm of exec for a command that is not modelled yet: safe, since nothing can be proved of its
  effect. No arm raises it. -/
  | notModelled (mnemonic : String)
  deriving DecidableEq, Repr

/-! ### The state after a power-on reset (R182) -/

/-- A line that is deasserted at its pin and in its debounced form. -/
def Line.down : Line := ⟨false, false, 0⟩

/-- The lines of a bay with every pin deasserted (DESIGN CHOICE, log 8). -/
def BayLines.down : BayLines :=
  { present := .down, lever := .down, button := .down, lockSense := .down, auxGood := .down, mainGood := .down,
    ready := .down, fault := .down, class0 := false, class1 := false }

/-- The outputs of a VACANT slot with the default indicator settings (R44, R123, R139). -/
def SlotOutputs.dark : SlotOutputs :=
  { auxEn := false, mainEn := false, stop := true, lockDrive := .none, powerMode := .off, attnMode := .off,
    pwrInd := false, attnInd := false }

/-- The default hardware settings (R127). -/
def Hardware.reset : Hardware := ⟨true, false, false⟩

/-- The default indicator settings (R131). -/
def Lamps.reset : Lamps := ⟨.off, true, .off, true⟩

/-- A slot record after a power-on reset (R43, R46, R49, R79, R91, R116, R121, R127, R130, R131). -/
def Slot.reset : Slot :=
  { hardware := .reset, lines := .down, moduleClass := none, buttonPolicy := .eventOnly, autoStart := false,
    autoPending := false, holdOff := none, power := .vacant, profileIndex := 0, readyRequired := true,
    stageTimer := none, endDue := false, overcurrentDue := false, auxLostDue := false, mainLostDue := false,
    operation := none, lastOutcome := none, lockTimer := none, lockEndDue := none, overrideDraw := none,
    commitment := none, priority := 3, restoreAfterShed := false, lastFault := none, faultCount := 0,
    lamps := .reset, pendingSet := 0, out := .dark }

/-- The default class draws, in tenths of a watt (R8). -/
def classDefaults : Vector Nat 4 := #v[250, 500, 1000, 2000]

/-- A supply record after a power-on reset (R1). -/
def Supply.reset : Supply := ⟨.down, 0, 0⟩

/-- The budget unit after a power-on reset (R1, R3, R8, R12). -/
def Budget.reset : Budget :=
  { supplies := Vector.replicate 4 .reset, reserve := 0, mode := .full, classDraws := classDefaults, ceiling := 0,
    committed := 0 }

/-- The admission unit after a power-on reset (R26, R39, R41). -/
def Admission.reset : Admission :=
  { queue := [], positions := 2, inrushHeld := 0, gate := .opened, policy := .strict, bypassLimit := 4,
    enqueueCounter := 0, admissionCounter := 0, passDue := false }

/-- The default profile (R50). -/
def Profile.reset : Profile := ⟨6, 7, 50, true, 11, 11⟩

/-- The SLOW pattern's defaults (R136). -/
def BlinkPattern.slowReset : BlinkPattern := ⟨1000, 500, 0, none, false⟩

/-- The FAST pattern's defaults (R136). -/
def BlinkPattern.fastReset : BlinkPattern := ⟨250, 125, 0, none, false⟩

/-- All eleven event kinds: the default notice mask (R148). -/
def allKinds : Word16 := 0x07FF

/-- FAULT, SHED and RESTARTED: the default alert mask (R148). -/
def alertDefault : Word16 := 0x04C0

/-- The set that holds RESTARTED alone (R155). -/
def restartedSet : Word16 := 0x0400

/-- The event unit after a power-on reset at uptime 0, RESTARTED having been posted (R155, R182). -/
def Events.reset : Events :=
  { pendingZero := restartedSet, notices := [⟨none, .restarted, 1, 0⟩], overflow := false, announced := false,
    lostCount := 0, overflowStamp := none, noticeMask := allKinds, alertMask := alertDefault, alert := true }

/-- The message port after a power-on reset (R168), with the rate code of the straps. -/
def Port.reset (rate : Nat) : Port :=
  { linkRate := rate, receiver := .hunt, gap := 0, rxHeld := false, requests := [], ready := [], sending := none,
    credit := 0, framesAccepted := 0, checkFailures := 0, gapAborts := 0, lengthErrors := 0, droppedRejects := 0,
    offerDue := false }

/-- The part-wide block after a power-on reset (R181). -/
def PartWide.reset : PartWide :=
  { uptime := 0, ticketCounter := 1, frozen := false, restartCause := .powerOn, restartLine := .down,
    restartAsk := .none, rateA := false, rateB := false }

/-- The machine right after a power-on reset, its first tick (uptime 0) taken (R182), with every input pin deasserted
(DESIGN CHOICE, log 8) and no command waiting. -/
def State.reset : State :=
  { part := .reset, budget := .reset, admission := .reset, profiles := Vector.replicate 4 .reset,
    slots := Vector.replicate 24 .reset, holdOffTime := 5, slow := .slowReset, fast := .fastReset, events := .reset,
    port := .reset 0, pending := [], wires := [], choices := 0 }

end Sys2Proof.Machine
end

