-- ==== Sys2Proof/Machine/Operands.lean ====
section
/-! DEFINITION. How fields are carried (R169): the codes of named values, numbers to bytes and back, the reading of
the fields of a request, and the bytes of a frame with its check (R156). -/
namespace Sys2Proof.Machine

/-! ### Codes of named values (R156, R169) -/

/-- The code of a reply status (R156). -/
def Status.code : Status → Byte
  | .ok => 0x00 | .accepted => 0x01 | .done => 0x02 | .already => 0x03
  | .busy => 0x10 | .inUse => 0x11 | .disabled => 0x12 | .noModule => 0x13 | .faulted => 0x14 | .leverOpen => 0x15
  | .notLocked => 0x16 | .noLock => 0x17 | .frozen => 0x18 | .overCommitted => 0x19
  | .badSlot => 0x20 | .badValue => 0x21 | .badKind => 0x22 | .badLength => 0x23 | .badCheck => 0x24 | .badTag => 0x25
  | .dupTag => 0x26 | .portFull => 0x27

/-- The code of an event kind (R156). -/
def EventKind.code : EventKind → Nat
  | .inserted => 1 | .removed => 2 | .button => 3 | .lever => 4 | .lock => 5 | .opDone => 6 | .fault => 7 | .shed => 8
  | .supply => 9 | .ceiling => 10 | .restarted => 11

/-- The code of a notice's kind; OVERFLOW is 12 (R156). -/
def NoticeKind.code : NoticeKind → Nat
  | .event k => k.code
  | .overflow => 12

/-- The code of a slot state (R156). -/
def PowerState.code : PowerState → Nat
  | .vacant => 0 | .idle => 1 | .waiting => 2 | .auxRamp => 3 | .mainRamp => 4 | .settle => 5 | .readyWait => 6
  | .on => 7 | .drain => 8 | .faulted => 9

/-- The code of an outcome (R156). -/
def OutcomeKind.code : OutcomeKind → Nat
  | .done => 1 | .cancelled => 2 | .aborted => 3 | .fault => 4 | .shed => 5 | .removed => 6 | .drainExpired => 7
  | .forced => 8 | .lockTimeout => 9 | .leverOpen => 10 | .refused => 11 | .discarded => 12

/-- The code of an operation kind; 0 is none (R169). -/
def OpKind.code : OpKind → Nat
  | .powerOn => 1 | .powerOff => 2 | .lock => 3 | .unlock => 4

/-- The code of an origin; 0 is none (R169). -/
def Origin.code : Origin → Nat
  | .host => 1 | .button => 2 | .auto => 3 | .restore => 4

/-- The code of a fault kind; 0 is none (R169). -/
def FaultKind.code : FaultKind → Nat
  | .auxTimeout => 1 | .mainTimeout => 2 | .readyTimeout => 3 | .railLost => 4 | .overcurrent => 5 | .leverOpen => 6
  | .removedLive => 7

/-- The code of an indicator mode (R169). -/
def IndMode.code : IndMode → Nat
  | .off => 0 | .on => 1 | .blinkSlow => 2 | .blinkFast => 3

/-- The code of a button policy (R169). -/
def ButtonPolicy.code : ButtonPolicy → Nat
  | .eventOnly => 0 | .toggle => 1

/-- The code of the gate (R169). -/
def Gate.code : Gate → Nat
  | .opened => 0 | .held => 1

/-- The code of a policy (R169). -/
def Policy.code : Policy → Nat
  | .strict => 0 | .fit => 1

/-- The code of a budget mode (R169). -/
def BudgetMode.code : BudgetMode → Nat
  | .full => 0 | .redundant => 1

/-- The code of a restart cause (R169). -/
def RestartCause.code : RestartCause → Nat
  | .powerOn => 0 | .restartLine => 1 | .restartRequest => 2

/-! ### Numbers and bytes, most significant byte first (R156, R169) -/

/-- A one-byte field. -/
def u8 (n : Nat) : List Byte := [BitVec.ofNat 8 n]

/-- A two-byte field. -/
def u16 (n : Nat) : List Byte := [BitVec.ofNat 8 (n / 256), BitVec.ofNat 8 n]

/-- A four-byte field. -/
def u32 (n : Nat) : List Byte :=
  [BitVec.ofNat 8 (n / 16777216), BitVec.ofNat 8 (n / 65536), BitVec.ofNat 8 (n / 256), BitVec.ofNat 8 n]

/-- A two-valued field: 1 for yes, set, present, closed or engaged (R169). -/
def flag (b : Bool) : List Byte := u8 (if b then 1 else 0)

/-- The number carried by two bytes. -/
def be16 (h l : Byte) : Nat := h.toNat * 256 + l.toNat

/-- The number carried by four bytes. -/
def be32 (a b c d : Byte) : Nat := ((a.toNat * 256 + b.toNat) * 256 + c.toNat) * 256 + d.toNat

/-- The event set carried by two bytes (R156). -/
def kindSet (h l : Byte) : Word16 := h ++ l

/-! ### Fields of a request (R169): none where the value is outside the field -/

/-- A slot field of 1 to 24. -/
def readSlotField (b : Byte) : Option SlotId :=
  if h : 1 ≤ b.toNat ∧ b.toNat ≤ 24 then some ⟨b.toNat - 1, by omega⟩ else none

/-- A supply field of 1 to 4. -/
def readSupplyField (b : Byte) : Option SupplyId :=
  if h : 1 ≤ b.toNat ∧ b.toNat ≤ 4 then some ⟨b.toNat - 1, by omega⟩ else none

/-- A profile field of 0 to 3. -/
def readProfileField (b : Byte) : Option (Fin 4) :=
  if h : b.toNat < 4 then some ⟨b.toNat, h⟩ else none

/-- A two-valued field, 0 or 1. -/
def readFlag (b : Byte) : Option Bool :=
  match b.toNat with
  | 0 => some false
  | 1 => some true
  | _ => none

/-- An indicator mode field. -/
def readIndMode (b : Byte) : Option IndMode :=
  match b.toNat with
  | 0 => some .off
  | 1 => some .on
  | 2 => some .blinkSlow
  | 3 => some .blinkFast
  | _ => none

/-- A button policy field. -/
def readButtonPolicy (b : Byte) : Option ButtonPolicy :=
  (readFlag b).map fun t => if t then .toggle else .eventOnly

/-- A gate field. -/
def readGate (b : Byte) : Option Gate :=
  (readFlag b).map fun h => if h then .held else .opened

/-- A policy field. -/
def readPolicy (b : Byte) : Option Policy :=
  (readFlag b).map fun f => if f then .fit else .strict

/-- A budget mode field. -/
def readBudgetMode (b : Byte) : Option BudgetMode :=
  (readFlag b).map fun r => if r then .redundant else .full

/-- A blink pattern field. -/
def readPattern (b : Byte) : Option Pattern :=
  (readFlag b).map fun f => if f then .fast else .slow

/-- A number field that must lie in a range. -/
def readRange (lo hi n : Nat) : Option Nat := if lo ≤ n ∧ n ≤ hi then some n else none

/-- An override draw field: 0 to 20000 tenths of a watt, or 65535 to clear (R179). -/
def readOverride (n : Nat) : Option (Option Nat) :=
  if n ≤ 20000 then some (some n) else if n = 65535 then some none else none

/-- An override draw or a hold-off remaining as it is carried: 65535 when absent (R169). -/
def absentCode : Option Nat → Nat
  | some d => d
  | none => 65535

/-! ### The check and the frames (R156) -/

/-- One bit of the cyclic check with generator x^16 + x^12 + x^5 + 1. -/
def crcBit (r : Word16) : Word16 := if r.msb then (r <<< 1) ^^^ 0x1021 else r <<< 1

/-- One byte enters the check, most significant bit first. -/
def crcByte (r : Word16) (b : Byte) : Word16 :=
  crcBit (crcBit (crcBit (crcBit (crcBit (crcBit (crcBit (crcBit (r ^^^ (b ++ (0 : Byte))))))))))

/-- The check of a sequence of bytes: the register starts at all ones and is sent without inversion. -/
def crc (bytes : List Byte) : Word16 := bytes.foldl crcByte 0xFFFF

/-- The check of a frame: over LEN, TAG, KIND and the payload, in the order sent. -/
def frameCheck (len tag kind : Byte) (payload : List Byte) : Word16 := crc (len :: tag :: kind :: payload)

/-- A frame on the wire: SYNC, LEN, TAG, KIND, payload, CHECK with its high byte first. -/
def frameBytes (tag kind : Byte) (payload : List Byte) : List Byte :=
  let len := BitVec.ofNat 8 payload.length
  let c := frameCheck len tag kind payload
  0xA5 :: len :: tag :: kind :: (payload ++ [c.extractLsb' 8 8, c.extractLsb' 0 8])

/-- The slot number a subject is given in frames: 0 for the part as a whole. -/
def subjectNumber : Option SlotId → Nat
  | none => 0
  | some i => slotNumber i

/-- The payload of a notice (R153, the notice table of R156). -/
def NoticeFrame.payload (n : NoticeFrame) : List Byte :=
  u8 (subjectNumber n.subject) ++ u8 n.kind.code ++ u8 n.count ++ u32 n.stamp.toNat ++
    (match n.state with | some st => u8 st.code | none => [0xFF]) ++ u16 n.ticket ++
    (match n.outcome with | some o => u8 o.code | none => [0])

/-- The bytes of a frame that is being sent: replies and rejects have KIND 0x80, notices TAG 0 and KIND 0x81. -/
def TxFrame.bytes : TxFrame → List Byte
  | .reply _ tag payload => frameBytes tag 0x80 payload
  | .reject status tag => frameBytes tag 0x80 [status.code]
  | .notice n => frameBytes 0 0x81 n.payload

end Sys2Proof.Machine
end

