-- ==== Sys2Proof/Machine/Flags.lean ====
section
/-! DEFINITION. What the part computes from its state: which rails and positions go with a slot state, the effective
indicator modes and the pins of a slot, the sets of event kinds, the ALERT condition, and the ceiling. -/
namespace Sys2Proof.Machine

/-! ### Slot states (R44, R30, R94) -/

/-- AUX_RAMP to DRAIN: some rail is enabled and the slot holds a commitment (R11, R44, R92). -/
def PowerState.powered : PowerState → Bool
  | .vacant | .idle | .waiting | .faulted => false
  | .auxRamp | .mainRamp | .settle | .readyWait | .on | .drain => true

/-- MAIN_EN is raised: MAIN_RAMP to DRAIN (R44); in the same states AUX has come up (R94). -/
def PowerState.mainEn : PowerState → Bool
  | .vacant | .idle | .waiting | .faulted | .auxRamp => false
  | .mainRamp | .settle | .readyWait | .on | .drain => true

/-- MAIN has come up: SETTLE to DRAIN (R94). -/
def PowerState.mainUp : PowerState → Bool
  | .vacant | .idle | .waiting | .faulted | .auxRamp | .mainRamp => false
  | .settle | .readyWait | .on | .drain => true

/-- The rail has come up in this state (R94). -/
def PowerState.railUp : PowerState → Rail → Bool
  | st, .aux => st.mainEn
  | st, .main => st.mainUp

/-- The rail is enabled in this state (R44). -/
def PowerState.railEnabled : PowerState → Rail → Bool
  | st, .aux => st.powered
  | st, .main => st.mainEn

/-- STOP is asserted: in every state but READY_WAIT and ON (R44). -/
def PowerState.stop : PowerState → Bool
  | .readyWait | .on => false
  | .vacant | .idle | .waiting | .faulted | .auxRamp | .mainRamp | .settle | .drain => true

/-- The slot holds an inrush position: AUX_RAMP, MAIN_RAMP and SETTLE (R30). -/
def PowerState.inrush : PowerState → Bool
  | .auxRamp | .mainRamp | .settle => true
  | .vacant | .idle | .waiting | .faulted | .readyWait | .on | .drain => false

/-- An operation kind is a lock operation (R46). -/
def OpKind.isLock : OpKind → Bool
  | .lock | .unlock => true
  | .powerOn | .powerOff => false

/-- The kind of the lock operation in flight, if one is. -/
def Slot.lockOp (sl : Slot) : Option OpKind :=
  match sl.operation with
  | some o => if o.kind.isLock then some o.kind else none
  | none => none

/-- The ticket of the operation in flight, 0 when there is none (R91). -/
def Slot.opTicket (sl : Slot) : Nat :=
  match sl.operation with
  | some o => o.ticket
  | none => 0

/-- The ticket of the last outcome, 0 when there is none (R22). -/
def Slot.lastTicket (sl : Slot) : Nat :=
  match sl.lastOutcome with
  | some o => o.ticket
  | none => 0

/-- The slot is seated: its lever is closed and, with a lock fitted, its lock sense engaged (R29). -/
def Slot.seated (sl : Slot) : Bool :=
  sl.lines.lever.held && (!sl.hardware.lockFitted || sl.lines.lockSense.held)

/-! ### Outputs of a slot -/

/-- The power indicator's mode that follows the state (R133). -/
def PowerState.autoMode : PowerState → IndMode
  | .vacant | .idle | .faulted => .off
  | .waiting => .blinkSlow
  | .auxRamp | .mainRamp | .settle | .readyWait | .drain => .blinkFast
  | .on => .on

/-- The power indicator's effective mode (R133). -/
def Slot.powerMode (sl : Slot) : IndMode :=
  if sl.lamps.powerAuto then sl.power.autoMode else sl.lamps.powerHost

/-- The attention indicator's effective mode (R134). -/
def Slot.attnMode (sl : Slot) : IndMode :=
  if sl.holdOff.isSome then .blinkFast
  else if sl.power = .faulted ∧ sl.lamps.attnAuto = true then .on
  else sl.lamps.attnHost

/-- The pattern is in its on-time (R136). -/
def BlinkPattern.lit (b : BlinkPattern) : Bool := decide (b.phase < b.onTime)

/-- An indicator output from its effective mode and the two patterns (R132). -/
def IndMode.lit (slowLit fastLit : Bool) : IndMode → Bool
  | .off => false
  | .on => true
  | .blinkSlow => slowLit
  | .blinkFast => fastLit

/-- The lock drive: ENGAGE during a LOCK operation, RELEASE during an UNLOCK, NONE otherwise (R123). -/
def Slot.lockDrive (sl : Slot) : LockDrive :=
  match sl.operation with
  | some o =>
    match o.kind with
    | .lock => .engage
    | .unlock => .release
    | .powerOn => .none
    | .powerOff => .none
  | none => .none

/-- The outputs that a slot's record and the two patterns call for (R44, R123, R132 to R134). -/
def Slot.outputs (slowLit fastLit : Bool) (sl : Slot) : SlotOutputs :=
  { auxEn := sl.power.powered, mainEn := sl.power.mainEn, stop := sl.power.stop, lockDrive := sl.lockDrive,
    powerMode := sl.powerMode, attnMode := sl.attnMode, pwrInd := sl.powerMode.lit slowLit fastLit,
    attnInd := sl.attnMode.lit slowLit fastLit }

/-- A slot with its outputs taking the levels its record calls for: every output takes its new level in the happening
that changes what it is computed from (R44, R123, R132). -/
def Slot.driven (slowLit fastLit : Bool) (sl : Slot) : Slot := { sl with out := sl.outputs slowLit fastLit }

/-! ### Sets of event kinds (R142, R156) -/

/-- The set that holds one kind: code k has the weight 2^(k-1). -/
def EventKind.bit (k : EventKind) : Word16 := (1 : Word16) <<< (k.code - 1)

/-- A kind is in a set. -/
def hasKind (set : Word16) (k : EventKind) : Bool := set &&& k.bit != 0

/-- The slot kinds: codes 1 to 8 (R140). -/
def slotKinds : Word16 := 0x00FF

/-- The slot-0 kinds: codes 9 to 11 (R140). -/
def zeroKinds : Word16 := 0x0700

/-- The kinds of a set are all of a group. -/
def within (set group : Word16) : Bool := set &&& ~~~group == 0

/-- The code of a timeout stands for a duration in ms; 15 is no limit (R50). -/
def timeoutMs : Nat → Option Nat
  | 0 => some 1 | 1 => some 2 | 2 => some 5 | 3 => some 10 | 4 => some 20 | 5 => some 50 | 6 => some 100
  | 7 => some 200 | 8 => some 500 | 9 => some 1000 | 10 => some 2000 | 11 => some 5000 | 12 => some 10000
  | 13 => some 20000 | 14 => some 60000
  | _ => none

/-! ### The ceiling (R4, R5) -/

/-- What a supply contributes: its capacity while its GOOD is true. -/
def Supply.share (p : Supply) : Nat := if p.line.held then p.capacity else 0

/-- The sum of the capacities of the good supplies. -/
def goodSum (ps : Vector Supply 4) : Nat := (ps.toList.map Supply.share).sum

/-- The greatest capacity of a good supply, 0 with none. -/
def goodMax (ps : Vector Supply 4) : Nat := (ps.toList.map Supply.share).foldl max 0

/-- The ceiling in a mode (R4, R5); the subtractions stop at 0.0 W. -/
def ceilingFor (ps : Vector Supply 4) (reserve : Nat) : BudgetMode → Nat
  | .full => goodSum ps - reserve
  | .redundant => goodSum ps - goodMax ps - reserve

end Sys2Proof.Machine
end

