-- ==== Sys2Proof/Machine/Ops.lean ====
section
/-! DEFINITION. The operations that the commands share: reading and writing a slot record, event occurrences, tickets
and operations, commitments and cuts, the admission queue, power-on checks, faults, stages, lock operations, the
transmit arbiter and the execution of a request. -/
namespace Sys2Proof.Machine

/-! ### Slot records -/

/-- The record of a slot. -/
def State.slot (s : State) (i : SlotId) : Slot := s.slots.get i

/-- Write a slot record. Its outputs take the levels the record calls for (R44, R123, R132). -/
def State.setSlot (s : State) (i : SlotId) (sl : Slot) : State :=
  { s with slots := s.slots.set i.val (sl.driven s.slow.lit s.fast.lit) i.isLt }

/-- Change a slot record. -/
def State.upd (s : State) (i : SlotId) (f : Slot → Slot) : State := s.setSlot i (f (s.slot i))

/-- Every slot's outputs take their levels anew, after a pattern has changed (R132). -/
def State.redrive (s : State) : State :=
  { s with slots := s.slots.map (Slot.driven s.slow.lit s.fast.lit) }

/-- The profile that a slot's index selects (R51). -/
def State.profileOf (s : State) (i : SlotId) : Profile := s.profiles.get (s.slot i).profileIndex

/-- A line whose debounced value becomes `v`: its pin shows `v`, and its count starts afresh (log 4). -/
def Line.take (v : Bool) : Line := ⟨v, v, 0⟩

/-- Change the lines of a slot. -/
def State.updLines (s : State) (i : SlotId) (f : BayLines → BayLines) : State :=
  s.upd i fun sl => { sl with lines := f sl.lines }

/-! ### Events (R141 to R145, R150) -/

/-- The pending set of a slot, or of slot 0 (R142). -/
def State.pendingOf (s : State) : Option SlotId → Word16
  | none => s.events.pendingZero
  | some i => (s.slot i).pendingSet

/-- Write a pending set. -/
def State.setPending (s : State) (who : Option SlotId) (set : Word16) : State :=
  match who with
  | none => { s with events.pendingZero := set }
  | some i => s.upd i fun sl => { sl with pendingSet := set }

/-- Some pending set holds a kind in the alert mask (R150). -/
def State.alerting (s : State) : Bool :=
  s.events.pendingZero &&& s.events.alertMask != 0 ||
    allSlots.any fun i => (s.slot i).pendingSet &&& s.events.alertMask != 0

/-- ALERT is recomputed (R150). -/
def State.realert (s : State) : State := { s with events.alert := s.alerting }

/-- A notice entry is for this slot and kind (R143). -/
def Notice.isFor (n : Notice) (who : Option SlotId) (k : EventKind) : Bool :=
  decide (n.subject = who) && decide (n.kind = k)

/-- An occurrence that finds the notice queue full is lost to it (R145). -/
def Events.lose (e : Events) (now : Word32) : Events :=
  { e with
    lostCount := satInc 255 e.lostCount
    overflow := true
    overflowStamp := if e.overflow then e.overflowStamp else some now }

/-- An occurrence is posted to the notice queue (R144). -/
def Events.post (e : Events) (who : Option SlotId) (k : EventKind) (now : Word32) : Events :=
  if e.notices.any (·.isFor who k) then
    { e with notices := e.notices.map fun n => if n.isFor who k then { n with count := satInc 255 n.count } else n }
  else if e.notices.length < 32 then
    { e with notices := e.notices ++ [⟨who, k, 1, now⟩] }
  else e.lose now

/-- An occurrence of a kind on a slot (R141). Posting to the notice queue makes an offer due (R163). -/
def State.occur (s : State) (who : Option SlotId) (k : EventKind) : State :=
  let s1 := s.setPending who (s.pendingOf who ||| k.bit)
  let s2 :=
    if hasKind s1.events.noticeMask k then
      { s1 with events := s1.events.post who k s1.part.uptime, port.offerDue := true }
    else s1
  s2.realert

/-! ### Tickets and operations (R47, R48) -/

/-- The counter after a ticket has been given: 65535 is followed by 1 (R47). -/
def nextTicket (t : Nat) : Nat := if t ≥ 65535 then 1 else t + 1

/-- The counter advances. -/
def State.advanceTicket (s : State) : State :=
  { s with part.ticketCounter := nextTicket s.part.ticketCounter }

/-- An operation is created on a slot with a new ticket (R46, R47). A power operation clears auto-start pending
(R121). -/
def State.startOperation (s : State) (i : SlotId) (kind : OpKind) (origin : Origin) : State :=
  let op : Operation := ⟨kind, s.part.ticketCounter, origin, s.part.uptime⟩
  (s.upd i fun sl => { sl with operation := some op, autoPending := sl.autoPending && kind.isLock }).advanceTicket

/-- The last outcome that the end of an operation writes (R48). -/
def Operation.ended (o : Operation) (outcome : OutcomeKind) (now : Word32) : LastOutcome :=
  ⟨o.kind, o.ticket, o.origin, outcome, none, now⟩

/-- The operation in flight, if any, ends (R48): last outcome, no operation, OP_DONE. -/
def State.endOperation (s : State) (i : SlotId) (outcome : OutcomeKind) : State :=
  match (s.slot i).operation with
  | none => s
  | some o =>
    (s.upd i fun sl => { sl with lastOutcome := some (o.ended outcome s.part.uptime), operation := none }).occur
      (some i) .opDone

/-! ### Commitments and cuts (R13, R62) -/

/-- The pass-due mark is set (R35). -/
def State.markPass (s : State) : State := { s with admission.passDue := true }

/-- The slot's commitment is released with its inrush position, if it holds them (R13), without a report. -/
def State.release (s : State) (i : SlotId) : State :=
  match (s.slot i).commitment with
  | none => s
  | some c =>
    let s1 :=
      { s with
        budget.committed := s.budget.committed - c.amount
        admission.inrushHeld := if c.inrush then s.admission.inrushHeld - 1 else s.admission.inrushHeld }
    s1.upd i fun sl => { sl with commitment := none }

/-- A slot record that has left its stage for the state `st`, its stage count and due ends discarded (R51, R62;
DEDUCED, log 12). -/
def Slot.stopped (sl : Slot) (st : PowerState) : Slot :=
  { sl with
    power := st, stageTimer := none, endDue := false, overcurrentDue := false, auxLostDue := false,
    mainLostDue := false }

/-- Cutting a slot in a restart: as R62, with no pass-due mark (R185, R186). -/
def State.cutQuiet (s : State) (i : SlotId) (st : PowerState) : State :=
  (s.release i).upd i fun sl => sl.stopped st

/-- Cutting a slot (R62), which leaves it in the state `st`: enables lowered and STOP asserted by that state, the
stage count discarded, the commitment released, and the pass-due mark set by the release. -/
def State.cut (s : State) (i : SlotId) (st : PowerState) : State :=
  if (s.slot i).commitment.isSome then (s.cutQuiet i st).markPass else s.cutQuiet i st

/-- A running hold-off window is cancelled (R119). -/
def State.cancelHoldOff (s : State) (i : SlotId) : State := s.upd i fun sl => { sl with holdOff := none }

/-! ### The admission queue (R23, R26, R28) -/

/-- Place an entry behind every entry of its own or a higher priority, ahead of every lower one (R26). -/
def placeEntry (e : QueueEntry) : List QueueEntry → List QueueEntry
  | [] => [e]
  | x :: xs => if e.priority ≤ x.priority then x :: placeEntry e xs else e :: x :: xs

/-- A slot joins the admission queue (R23), with a held-for-rise mark when shedding puts it back (R83). -/
def State.joinQueue (s : State) (i : SlotId) (origin : Origin) (mark : Bool) : State :=
  let ticket := s.part.ticketCounter
  let s1 := s.startOperation i .powerOn origin
  let stamp := satInc stampTop s1.admission.enqueueCounter
  let entry : QueueEntry := ⟨i, (s1.slot i).priority, stamp, origin, ticket, 0, mark⟩
  let s2 :=
    { s1 with
      admission.enqueueCounter := stamp
      admission.queue := placeEntry entry s1.admission.queue
      admission.passDue := true }
  s2.upd i fun sl => { sl with power := .waiting }

/-- The slot's entry leaves the queue other than by admission: the others keep their order, and the pass-due mark is
set (R28). -/
def State.leaveQueue (s : State) (i : SlotId) : State :=
  { s with
    admission.queue := s.admission.queue.filter fun e => decide (e.slot ≠ i)
    admission.passDue := true }

/-- The POWER-ON checks (R21), in order: the status of the first that fails, or none. -/
def Slot.powerOnCheck (sl : Slot) : Option Status :=
  if sl.hardware.enabled = false then some .disabled
  else if sl.power = .faulted then some .faulted
  else if sl.lines.present.held = false then some .noModule
  else if sl.lines.lever.held = false then some .leverOpen
  else if sl.hardware.lockFitted = true ∧ sl.lines.lockSense.held = false then some .notLocked
  else if sl.lockOp.isSome then some .busy
  else none

/-- The auto-start attempt (R122): made when the slot is IDLE with auto-start and auto-start pending set; a failed
check changes nothing. -/
def State.autoAttempt (s : State) (i : SlotId) : State :=
  let sl := s.slot i
  if sl.power = .idle ∧ sl.autoStart = true ∧ sl.autoPending = true ∧ sl.powerOnCheck = none then
    s.joinQueue i .auto false
  else s

/-! ### Faults (R99) -/

/-- A fault on a slot (R99). -/
def State.raiseFault (s : State) (i : SlotId) (kind : FaultKind) : State :=
  let sl := s.slot i
  let record : FaultRecord := ⟨kind, sl.power, sl.opTicket, s.part.uptime⟩
  let s1 := s.upd i fun sl => { sl with lastFault := some record, faultCount := satInc 255 sl.faultCount }
  (((s1.cut i .faulted).endOperation i .fault).occur (some i) .fault).cancelHoldOff i

/-! ### Power-on stages (R55 to R59) and the drain (R70, R73) -/

/-- A slot record that enters a stage: its count, the ready-required copied from the profile, and whether its end is
due at once (R51). -/
def Slot.inStage (sl : Slot) (st : PowerState) (timer : Option Nat) (readyRequired endDue : Bool) : Slot :=
  { sl with power := st, stageTimer := timer, readyRequired := readyRequired, endDue := endDue }

/-- Entry to AUX_RAMP (R55). A FAULT line already asserted makes an OVERCURRENT due (R95). -/
def State.enterAuxRamp (s : State) (i : SlotId) : State :=
  let p := s.profileOf i
  s.upd i fun sl =>
    { sl.inStage .auxRamp (timeoutMs p.auxCode) p.readyRequired sl.lines.auxGood.held with
      overcurrentDue := sl.lines.fault.held }

/-- AUX_RAMP ends (R56). By a due end with AUX_GOOD down again, a RAIL_LOST of AUX becomes due (R94). -/
def State.endAuxRamp (s : State) (i : SlotId) (byDueEnd : Bool) : State :=
  let p := s.profileOf i
  s.upd i fun sl =>
    { sl.inStage .mainRamp (timeoutMs p.mainCode) p.readyRequired sl.lines.mainGood.held with
      auxLostDue := byDueEnd && !sl.lines.auxGood.held }

/-- The settle timer that a settle time sets: none for 0 ms, whose end is due at once (R57). -/
def settleTimer (ms : Nat) : Option Nat := if ms = 0 then none else some ms

/-- MAIN_RAMP ends (R57). By a due end with MAIN_GOOD down again, a RAIL_LOST of MAIN becomes due (R94). -/
def State.endMainRamp (s : State) (i : SlotId) (byDueEnd : Bool) : State :=
  let p := s.profileOf i
  s.upd i fun sl =>
    { sl.inStage .settle (settleTimer p.settleMs) p.readyRequired (decide (p.settleMs = 0)) with
      mainLostDue := byDueEnd && !sl.lines.mainGood.held }

/-- The commitment's inrush position is freed; the commitment stays (R14). -/
def State.freeInrush (s : State) (i : SlotId) : State :=
  match (s.slot i).commitment with
  | none => s
  | some c =>
    let s1 :=
      { s with
        admission.inrushHeld := if c.inrush then s.admission.inrushHeld - 1 else s.admission.inrushHeld }
    s1.upd i fun sl => { sl with commitment := some { c with inrush := false } }

/-- The slot reaches ON and its POWER_ON operation ends DONE (R58, R59). -/
def State.reachOn (s : State) (i : SlotId) (readyRequired : Bool) : State :=
  (s.upd i fun sl => sl.inStage .on none readyRequired false).endOperation i .done

/-- The settle time ends (R58). -/
def State.endSettle (s : State) (i : SlotId) : State :=
  let p := s.profileOf i
  let s1 := (s.freeInrush i).markPass
  if p.readyRequired then
    s1.upd i fun sl => sl.inStage .readyWait (timeoutMs p.readyCode) true sl.lines.ready.held
  else s1.reachOn i false

/-- READY_WAIT ends (R59). -/
def State.endReadyWait (s : State) (i : SlotId) : State := s.reachOn i (s.slot i).readyRequired

/-- Entry to DRAIN (R70). -/
def State.enterDrain (s : State) (i : SlotId) : State :=
  let p := s.profileOf i
  s.upd i fun sl =>
    sl.inStage .drain (timeoutMs p.graceCode) p.readyRequired
      (if p.readyRequired then !sl.lines.ready.held else decide (p.graceCode = 15))

/-- The end of a drain with an outcome (R73). -/
def State.endDrain (s : State) (i : SlotId) (outcome : OutcomeKind) : State :=
  (s.cut i .idle).endOperation i outcome

/-- A POWER-OFF that has passed its checks, or one that the button performs (R64 to R69): the state it leaves, its
status and its ticket. `origin` is the origin of a POWER_OFF operation it creates. -/
def State.powerOffAction (s : State) (i : SlotId) (force : Bool) (origin : Origin) : State × Status × Nat :=
  let sl := s.slot i
  let fresh := s.part.ticketCounter
  match sl.power with
  | .vacant | .idle | .faulted => (s, .already, 0)
  | .waiting =>
    (((s.leaveQueue i).endOperation i .cancelled).upd i fun sl => { sl with power := .idle }, .done, sl.opTicket)
  | .auxRamp | .mainRamp | .settle | .readyWait => ((s.cut i .idle).endOperation i .aborted, .done, sl.opTicket)
  | .on =>
    if force then (((s.startOperation i .powerOff origin).cut i .idle).endOperation i .done, .done, fresh)
    else ((s.startOperation i .powerOff origin).enterDrain i, .accepted, fresh)
  | .drain => if force then (s.endDrain i .forced, .done, sl.opTicket) else (s, .already, sl.opTicket)

/-! ### Lock operations (R124, R126) -/

/-- The lock operation in flight ends: drive NONE by the operation's end, deadline discarded, outcome, OP_DONE. -/
def State.endLock (s : State) (i : SlotId) (outcome : OutcomeKind) : State :=
  (s.upd i fun sl => { sl with lockTimer := none }).endOperation i outcome

/-- The end of a lock operation with outcome DONE (R126): a LOCK is followed by the auto-start attempt (R122). -/
def State.lockDone (s : State) (i : SlotId) (kind : OpKind) : State :=
  let s1 := s.endLock i .done
  if kind = .lock then s1.autoAttempt i else s1

/-- The lock sense that a lock operation drives toward: engaged for LOCK (R124). -/
def lockTarget (kind : OpKind) : Bool := decide (kind = .lock)

/-! ### The ceiling and shedding (R6, R75 to R87) -/

/-- The time a slot has been draining: uptimes taken modulo 2^32 (R77). Without an operation, which no run
reaches, it is 0 (log 23). -/
def State.drainElapsed (s : State) (i : SlotId) : Nat :=
  match (s.slot i).operation with
  | some o => (s.part.uptime - o.start).toNat
  | none => 0

/-- The stamp of a slot's admission. -/
def Slot.admissionStamp (sl : Slot) : Nat :=
  match sl.commitment with
  | some c => c.stamp
  | none => 0

/-- A slot stands strictly before another in shedding order, slot numbers apart (R77). -/
def State.shedsBefore (s : State) (i j : SlotId) : Bool :=
  let a := s.slot i
  let b := s.slot j
  if a.power = .drain then
    if b.power = .drain then decide (s.drainElapsed j < s.drainElapsed i) else true
  else if b.power = .drain then false
  else decide (a.priority < b.priority) ||
    (decide (a.priority = b.priority) && decide (b.admissionStamp < a.admissionStamp))

/-- The first of the slots given, in shedding order, that holds a commitment; of equal ones the first in the list
(R76, R77). -/
def State.firstVictim (s : State) : List SlotId → Option SlotId
  | [] => none
  | i :: rest =>
    match s.firstVictim rest with
    | none => if (s.slot i).commitment.isSome then some i else none
    | some j => if (s.slot i).commitment.isSome ∧ s.shedsBefore j i = false then some i else some j

/-- The next victim: the head of shedding order (R77). -/
def State.victim (s : State) : Option SlotId := s.firstVictim allSlots

/-- Shedding one victim (R80 to R83). -/
def State.shedVictim (s : State) (i : SlotId) : State :=
  let sl := s.slot i
  let s1 := ((s.cut i .idle).endOperation i .shed).occur (some i) .shed
  if sl.power ≠ .drain ∧ sl.restoreAfterShed = true ∧ sl.lines.present.held = true then
    s1.joinQueue i .restore true
  else s1

/-- Shedding (R75): victims one at a time until the committed total is at or below the ceiling. There are at most as
many victims as slots. -/
def State.shedLoop : Nat → State → State
  | 0, s => s
  | n + 1, s =>
    if s.budget.committed ≤ s.budget.ceiling then s
    else
      match s.victim with
      | none => s
      | some i => State.shedLoop n (s.shedVictim i)

/-- The ceiling that the supply records and the settings give now (R4, R5). -/
def Budget.computed (b : Budget) : Nat := ceilingFor b.supplies b.reserve b.mode

/-- A rise of the ceiling clears every held-for-rise mark (R85). -/
def State.clearMarks (s : State) : State :=
  { s with admission.queue := s.admission.queue.map fun e => { e with heldForRise := false } }

/-- The ceiling is recomputed after a debounced GOOD change or an accepted request (R6). -/
def State.recompute (s : State) : State :=
  let old := s.budget.ceiling
  let new := s.budget.computed
  if new = old then s
  else
    let s1 := ({ s with budget.ceiling := new }).occur none .ceiling
    if old < new then s1.clearMarks.markPass
    else s1.shedLoop 24

/-! ### The transmit arbiter (R152, R153, R163) -/

/-- The contents of the notice frame for an entry of the notice queue (R153). -/
def State.noticeFrame (s : State) (n : Notice) : NoticeFrame :=
  let last : Option LastOutcome := match n.subject with
    | some i => if n.kind = EventKind.opDone then (s.slot i).lastOutcome else none
    | none => none
  { subject := n.subject, kind := .event n.kind, count := n.count, stamp := n.stamp
    state := n.subject.map fun i => (s.slot i).power
    ticket := match last with | some o => o.ticket | none => 0
    outcome := last.map fun o => o.outcome }

/-- The contents of an OVERFLOW notice frame (R153). -/
def Events.overflowFrame (e : Events) : NoticeFrame :=
  { subject := none, kind := .overflow, count := e.lostCount, stamp := e.overflowStamp.getD 0, state := none
    ticket := 0, outcome := none }

/-- The line is offered to the event unit, which chooses a notice, if it has one (R152). -/
def State.startNotice (s : State) : State :=
  if s.events.overflow = true ∧ s.events.announced = false then
    { s with
      events.announced := true
      port.credit := s.port.credit - 1
      port.sending := some (.notice s.events.overflowFrame) }
  else
    match s.events.notices with
    | [] => s
    | n :: rest =>
      { s with
        events.notices := rest
        port.credit := s.port.credit - 1
        port.sending := some (.notice (s.noticeFrame n)) }

/-- An executed request has this tag. -/
def Request.answers (r : Request) (tag : Byte) : Bool := decide (r.tag = tag) && r.reply.isSome

/-- The reply of the request with a tag starts: its entry leaves the request queue (R161, R163). -/
def Port.startReply (p : Port) (tag : Byte) : Port :=
  match p.requests.find? (·.answers tag) with
  | none => p
  | some r =>
    { p with
      requests := p.requests.filter fun r => !r.answers tag
      sending := some (.reply r.kind tag (r.reply.getD [])) }

/-- A requested restart is due and not yet taken (R184). -/
def RestartAsk.isDue : RestartAsk → Bool
  | .due _ => true
  | .none | .asked _ => false

/-- The arbiter may start a frame: no frame is being sent, LINK_RX is not held in a link reset (R163, R164), and no
requested restart waits to be taken (R168, log 11). -/
def State.lineIdle (s : State) : Bool :=
  s.port.sending.isNone && !s.port.rxHeld && !s.part.restartAsk.isDue

/-- The arbiter makes an offer (R163): the reply or reject produced first; else a notice, with credit; else the offer
lapses. -/
def State.offer (s : State) : State :=
  if s.lineIdle then
    match s.port.ready with
    | .reply tag :: rest => { s with port := ({ s.port with ready := rest }).startReply tag }
    | .reject status tag :: rest => { s with port.ready := rest, port.sending := some (.reject status tag) }
    | [] => if 1 ≤ s.port.credit then s.startNotice else s
  else s

/-- The end of a happening: if it made a frame ready, the arbiter makes an offer (R163, log 10). -/
def State.finish (s : State) : State :=
  if s.port.offerDue then ({ s with port.offerDue := false }).offer else s

/-! ### Rejects and the execution of requests (R160 to R162) -/

/-- A waiting frame is a reject, that is, it holds a reject holding place. -/
def Ready.isReject : Ready → Bool
  | .reject _ _ => true
  | .reply _ => false

/-- How many of the two reject holding places are held (R160). -/
def Port.rejectsHeld (p : Port) : Nat := p.ready.countP Ready.isReject

/-- The highest value of the 16-bit link counters (R166). -/
def counterTop : Nat := 65535

/-- A reject is produced: it takes a free holding place, or is dropped and counted (R160). -/
def Port.produceReject (p : Port) (status : Status) (tag : Byte) : Port :=
  if p.rejectsHeld < 2 then { p with ready := p.ready ++ [.reject status tag], offerDue := true }
  else { p with droppedRejects := satInc counterTop p.droppedRejects }

/-- The oldest request of the queue that has no reply yet (R162). -/
def Port.nextRequest (p : Port) : Option Request := p.requests.find? fun r => r.reply.isNone

/-- The execution of the request with this tag, KIND and payload is due: it is the oldest request without a reply,
and no RESTART request has been executed (R162). -/
def State.requestDue (s : State) (tag kind : Byte) (payload : List Byte) : Bool :=
  decide (s.port.nextRequest = some ⟨tag, kind, payload, none⟩) && decide (s.part.restartAsk = .none)

/-- Store the reply in the first entry that has none and this tag. -/
def storeReply (tag : Byte) (reply : List Byte) : List Request → List Request
  | [] => []
  | r :: rest =>
    if r.tag = tag ∧ r.reply = none then { r with reply := some reply } :: rest
    else r :: storeReply tag reply rest

/-- The reply is stored in the request's entry and joins the tail of the reply list (R162). -/
def State.answer (s : State) (tag : Byte) (reply : List Byte) : State :=
  { s with
    port.requests := storeReply tag reply s.port.requests
    port.ready := s.port.ready ++ [.reply tag]
    port.offerDue := true }

/-- A reply that carries its status alone (R171). -/
def statusOnly (st : Status) : List Byte := [st.code]

/-- The execution of a request (R162): `body` carries it out and gives the state it leaves and its reply. A command
that is not the execution the port owes now is no happening that can arise, and leaves the state as it is (log 7). -/
def State.execute (s : State) (tag kind : Byte) (payload : List Byte) (body : State → State × List Byte) : State :=
  if s.requestDue tag kind payload then ((body s).1.answer tag (body s).2).finish else s

/-- The result of a happening that arises: the state it leaves, the arbiter's offer made. -/
abbrev Result := Host.Outcome State Fault Refusal

/-- A happening that arises only under a condition: its effect and the arbiter's offer where the condition holds; where
it does not, the happening does not arise and the state stays as it is. -/
def State.happen (s : State) (arises : Bool) (effect : State) : Result :=
  if arises then .next effect.finish else .next s

end Sys2Proof.Machine
end

