-- ==== Sys2Proof/Machine/Admission.lean ====
section
/-! DEFINITION. The budget unit's and the admission unit's own happenings: SUPPLY_GOOD_CHANGE (R7) and the
ADMISSION_PASS (R36 to R39). -/
namespace Sys2Proof.Machine

/-- A supply record whose GOOD has changed (R7): its stamp is the uptime of the change. -/
def Supply.changed (p : Supply) (good : Bool) (now : Word32) : Supply := { p with line := .take good, stamp := now }

/-- A change of a supply's debounced GOOD (R7): record, SUPPLY, ceiling. It is taken whole, shedding included, so with a
rise and a fall at one tick the slots that stay committed can depend on the order, which R7 says they do not (DESIGN
CHOICE, log 28). -/
def State.supplyChange (s : State) (n : SupplyId) (good : Bool) : State :=
  let supplies := s.budget.supplies.set n.val ((s.budget.supplies.get n).changed good s.part.uptime) n.isLt
  (({ s with budget.supplies := supplies } : State).occur none .supply).recompute

def execSupplyGoodChange (n : SupplyId) (good : Bool) (s : State) : Result :=
  s.happen (decide ((s.budget.supplies.get n).line.held ≠ good)) (s.supplyChange n good)

/-- The slot's effective draw (R9): the override draw, else the class-table draw of its class. -/
def State.effectiveDraw (s : State) (i : SlotId) : Option Nat :=
  match (s.slot i).overrideDraw with
  | some d => some d
  | none => (s.slot i).moduleClass.map fun c => s.budget.classDraws.get c

/-- A draw fits (R10). -/
def Budget.fits (b : Budget) (draw : Nat) : Bool :=
  decide (0 < b.ceiling) && decide (b.committed + draw ≤ b.ceiling)

/-- Admitting a slot with a draw (R39), its entry having left the queue: stamp, commitment, committed total, inrush
position, entry to AUX_RAMP (R55). -/
def State.admitSlot (s : State) (i : SlotId) (draw : Nat) : State :=
  let stamp := satInc stampTop s.admission.admissionCounter
  let s1 :=
    { s with
      admission.admissionCounter := stamp
      admission.inrushHeld := s.admission.inrushHeld + 1
      budget.committed := s.budget.committed + draw }
  (s1.upd i fun sl => { sl with commitment := some ⟨draw, stamp, true⟩ }).enterAuxRamp i

/-- What a pass does with the entry it considers (R37). -/
inductive Verdict where
  | standsAside
  | passEnds
  | admitted (draw : Nat)
  | passedOver
  deriving DecidableEq, Repr

/-- The tests a pass makes on an entry, in turn (R37). A slot with no effective draw does not fit (log 17). -/
def State.judge (s : State) (e : QueueEntry) : Verdict :=
  if e.heldForRise || !(s.slot e.slot).seated then .standsAside
  else if s.admission.gate = .held ∨ s.admission.positions ≤ s.admission.inrushHeld then .passEnds
  else
    let noFit := if s.admission.policy = .strict ∨ s.admission.bypassLimit ≤ e.bypass then .passEnds else .passedOver
    match s.effectiveDraw e.slot with
    | some draw => if s.budget.fits draw then .admitted draw else noFit
    | none => noFit

/-- The walk of a pass over the queue (R37, R38): the state it leaves, the entries that remain, and whether it
admitted one of these entries. An entry passed over has its bypass count raised, to at most 15, exactly when the pass
admits one behind it. -/
def passWalk : List QueueEntry → State → State × List QueueEntry × Bool
  | [], s => (s, [], false)
  | e :: rest, s =>
    match s.judge e with
    | .standsAside =>
      match passWalk rest s with
      | (s1, kept, any) => (s1, e :: kept, any)
    | .passEnds => (s, e :: rest, false)
    | .admitted draw =>
      match passWalk rest (s.admitSlot e.slot draw) with
      | (s1, kept, _) => (s1, kept, true)
    | .passedOver =>
      match passWalk rest s with
      | (s1, kept, any) => (s1, (if any then { e with bypass := satInc 15 e.bypass } else e) :: kept, any)

/-- The admission pass (R36, R37): it clears the mark and walks the queue. -/
def State.pass (s : State) : State :=
  match passWalk s.admission.queue { s with admission.passDue := false } with
  | (s1, kept, _) => { s1 with admission.queue := kept }

def execAdmissionPass (s : State) : Result := s.happen s.admission.passDue s.pass

end Sys2Proof.Machine
end

