-- ==== Sys2Proof/Machine/ReadRequests.lean ====
section
/-! DEFINITION. The requests that report state: READ-SLOT, READ-QUEUE, READ-BUDGET, READ-EVENTS, ACK-EVENTS and
READ-PROFILE (chapters 8 and 10). A payload of another length than R170 gives is answered BAD_LENGTH (R162). -/
namespace Sys2Proof.Machine

/-- The current operation as READ-SLOT carries it, all zeros when absent (R176, bytes 17 to 24). -/
def operationBytes : Option Operation → List Byte
  | none => u8 0 ++ u16 0 ++ u8 0 ++ u32 0
  | some o => u8 o.kind.code ++ u16 o.ticket ++ u8 o.origin.code ++ u32 o.start.toNat

/-- The refusal status as READ-SLOT carries it: 255 unless REFUSED (R169, R176). -/
def refusalByte : Option Status → List Byte
  | none => u8 255
  | some st => [st.code]

/-- The last outcome, all zeros when absent (R176, bytes 25 to 34). -/
def outcomeBytes : Option LastOutcome → List Byte
  | none => u8 0 ++ u16 0 ++ u8 0 ++ u8 0 ++ u8 0 ++ u32 0
  | some o =>
    u8 o.kind.code ++ u16 o.ticket ++ u8 o.origin.code ++ u8 o.outcome.code ++ refusalByte o.refusal ++
      u32 o.stamp.toNat

/-- The commitment, all zeros when absent (R176, bytes 37 to 44). -/
def commitmentBytes : Option Commitment → List Byte
  | none => u8 0 ++ u16 0 ++ u32 0 ++ u8 0
  | some c => u8 1 ++ u16 c.amount ++ u32 c.stamp ++ flag c.inrush

/-- The last fault, all zeros when absent (R176, bytes 47 to 54). -/
def faultBytes : Option FaultRecord → List Byte
  | none => u8 0 ++ u8 0 ++ u16 0 ++ u32 0
  | some f => u8 f.kind.code ++ u8 f.state.code ++ u16 f.ticket ++ u32 f.stamp.toNat

/-- The class, 255 when absent (R169). -/
def classByte : Option (Fin 4) → List Byte
  | none => u8 255
  | some c => u8 c.val

/-- The four indicator settings and the two effective modes (R176, bytes 56 to 61; R171). -/
def lampBytes (sl : Slot) : List Byte :=
  u8 sl.lamps.powerHost.code ++ flag sl.lamps.powerAuto ++ u8 sl.lamps.attnHost.code ++ flag sl.lamps.attnAuto ++
    u8 sl.out.powerMode.code ++ u8 sl.out.attnMode.code

/-- The three hardware settings (R171). -/
def hardwareBytes (h : Hardware) : List Byte := flag h.enabled ++ flag h.lockFitted ++ flag h.surpriseTolerant

/-- The slot record as READ-SLOT carries it after the status (R176). -/
def slotBytes (i : SlotId) (sl : Slot) : List Byte :=
  u8 (slotNumber i) ++ u8 sl.power.code ++ hardwareBytes sl.hardware ++
    flag sl.lines.present.held ++ classByte sl.moduleClass ++ flag sl.lines.lever.held ++
    flag sl.lines.lockSense.held ++
    u8 sl.buttonPolicy.code ++ flag sl.autoStart ++ flag sl.autoPending ++
    u16 (absentCode sl.holdOff) ++
    u8 sl.profileIndex.val ++ flag sl.readyRequired ++
    operationBytes sl.operation ++ outcomeBytes sl.lastOutcome ++
    u16 (absentCode sl.overrideDraw) ++ commitmentBytes sl.commitment ++
    u8 sl.priority ++ flag sl.restoreAfterShed ++
    faultBytes sl.lastFault ++ u8 sl.faultCount ++
    lampBytes sl ++ u16 sl.pendingSet.toNat

/-- READ-SLOT (R176). -/
def readSlotRequest (payload : List Byte) (s : State) : State × List Byte :=
  match payload with
  | [n] =>
    match readSlotField n with
    | none => (s, statusOnly .badSlot)
    | some i => (s, statusOnly .ok ++ slotBytes i (s.slot i))
  | _ => (s, statusOnly .badLength)

def execReadSlot (tag : Byte) (payload : List Byte) (s : State) : Result :=
  .next (s.execute tag 0x10 payload (readSlotRequest payload))

/-- One entry of the admission queue (R177). -/
def entryBytes (e : QueueEntry) : List Byte :=
  u8 (slotNumber e.slot) ++ u8 e.priority ++ u8 e.origin.code ++ u8 (e.bypass + if e.heldForRise then 16 else 0)

/-- READ-QUEUE (R40, R177). -/
def readQueueRequest (payload : List Byte) (s : State) : State × List Byte :=
  match payload with
  | [] => (s, statusOnly .ok ++ u8 s.admission.queue.length ++ s.admission.queue.flatMap entryBytes)
  | _ => (s, statusOnly .badLength)

def execReadQueue (tag : Byte) (payload : List Byte) (s : State) : Result :=
  .next (s.execute tag 0x11 payload (readQueueRequest payload))

/-- A supply record (R178). R169 lists no code for the true and false of GOOD; the model carries 1 for true and 0 for false
(DESIGN CHOICE, log 27). -/
def supplyBytes (p : Supply) : List Byte := u16 p.capacity ++ flag p.line.held ++ u32 p.stamp.toNat

/-- READ-BUDGET (R178). The free count is K less the positions held (R30). -/
def readBudgetRequest (payload : List Byte) (s : State) : State × List Byte :=
  match payload with
  | [] =>
    let b := s.budget
    let a := s.admission
    (s, statusOnly .ok ++ u32 b.ceiling ++ u32 b.committed ++ u8 (a.positions - a.inrushHeld) ++ u8 a.positions ++
      u8 a.gate.code ++ u8 a.policy.code ++ u8 a.bypassLimit ++ u8 b.mode.code ++ u32 b.reserve ++ u8 s.holdOffTime ++
      b.classDraws.toList.flatMap u16 ++ b.supplies.toList.flatMap supplyBytes)
  | _ => (s, statusOnly .badLength)

def execReadBudget (tag : Byte) (payload : List Byte) (s : State) : Result :=
  .next (s.execute tag 0x12 payload (readBudgetRequest payload))

/-- The end of an overflow episode (R145). -/
def Events.endEpisode (e : Events) : Events :=
  { e with overflow := false, announced := false, lostCount := 0, overflowStamp := none }

/-- The overflow stamp as READ-EVENTS carries it: 0 when absent (R147). -/
def stampCode : Option Word32 → Nat
  | some t => t.toNat
  | none => 0

/-- READ-EVENTS (R147): 0 for slot 0, 1 to 24 for a slot, 255 for ALL, which also ends the overflow episode. -/
def readEventsRequest (payload : List Byte) (s : State) : State × List Byte :=
  match payload with
  | [n] =>
    if n.toNat = 255 then
      ({ s with events := s.events.endEpisode },
        statusOnly .ok ++ u16 s.events.pendingZero.toNat ++ allSlots.flatMap (fun i => u16 (s.slot i).pendingSet.toNat) ++
          flag s.events.overflow ++ u8 s.events.lostCount ++ u32 (stampCode s.events.overflowStamp))
    else if n.toNat = 0 then (s, statusOnly .ok ++ u8 0 ++ u16 s.events.pendingZero.toNat)
    else
      match readSlotField n with
      | none => (s, statusOnly .badSlot)
      | some i => (s, statusOnly .ok ++ u8 (slotNumber i) ++ u16 (s.slot i).pendingSet.toNat)
  | _ => (s, statusOnly .badLength)

def execReadEvents (tag : Byte) (payload : List Byte) (s : State) : Result :=
  .next (s.execute tag 0x13 payload (readEventsRequest payload))

/-- Kinds leave a pending set, their queued entries for that slot are withdrawn, and ALERT is recomputed (R146). -/
def State.acknowledge (s : State) (who : Option SlotId) (kinds : Word16) : State :=
  let s1 := s.setPending who (s.pendingOf who &&& ~~~kinds)
  ({ s1 with
      events.notices := s1.events.notices.filter fun n => !(decide (n.subject = who) && hasKind kinds n.kind) } :
    State).realert

/-- A slot field of 0 to 24: slot 0 is none. -/
def readSubjectField (b : Byte) : Option (Option SlotId) :=
  if b.toNat = 0 then some none else (readSlotField b).map some

/-- The kinds of the group of a pending set (R140). -/
def groupOf : Option SlotId → Word16
  | none => zeroKinds
  | some _ => slotKinds

/-- ACK-EVENTS (R146). -/
def ackEventsRequest (payload : List Byte) (s : State) : State × List Byte :=
  match payload with
  | [n, k1, k0] =>
    match readSubjectField n with
    | none => (s, statusOnly .badSlot)
    | some who =>
      let kinds := kindSet k1 k0
      if within kinds (groupOf who) then
        let s1 := s.acknowledge who kinds
        (s1, statusOnly .ok ++ u16 (s1.pendingOf who).toNat)
      else (s, statusOnly .badValue)
  | _ => (s, statusOnly .badLength)

def execAckEvents (tag : Byte) (payload : List Byte) (s : State) : Result :=
  .next (s.execute tag 0x14 payload (ackEventsRequest payload))

/-- The six profile fields in the order of SET-PROFILE (R170). -/
def profileBytes (p : Profile) : List Byte :=
  u8 p.auxCode ++ u8 p.mainCode ++ u16 p.settleMs ++ flag p.readyRequired ++ u8 p.readyCode ++ u8 p.graceCode

/-- READ-PROFILE (R53). -/
def readProfileRequest (payload : List Byte) (s : State) : State × List Byte :=
  match payload with
  | [n] =>
    match readProfileField n with
    | none => (s, statusOnly .badValue)
    | some p => (s, statusOnly .ok ++ u8 p.val ++ profileBytes (s.profiles.get p))
  | _ => (s, statusOnly .badLength)

def execReadProfile (tag : Byte) (payload : List Byte) (s : State) : Result :=
  .next (s.execute tag 0x15 payload (readProfileRequest payload))

end Sys2Proof.Machine
end

