-- ==== Sys2Proof/Machine/SlotRequests.lean ====
section
/-! DEFINITION. The requests that act on one slot: POWER-ON, POWER-OFF, CLEAR-FAULT, LOCK, UNLOCK, SET-INDICATOR,
SET-SLOT and SET-HARDWARE. A payload of another length than R170 gives is answered BAD_LENGTH (R162). -/
namespace Sys2Proof.Machine

/-- A reply of POWER-ON, POWER-OFF, LOCK or UNLOCK: status and ticket (R171). -/
def ticketReply (st : Status) (ticket : Nat) : List Byte := statusOnly st ++ u16 ticket

/-- POWER-ON on a slot that has passed its checks (R22). VACANT and FAULTED do not arise there (log 16). -/
def State.powerOnPassed (s : State) (i : SlotId) : State × List Byte :=
  let sl := s.slot i
  match sl.power with
  | .idle => (s.joinQueue i .host false, ticketReply .accepted s.part.ticketCounter)
  | .waiting | .auxRamp | .mainRamp | .settle | .readyWait => (s, ticketReply .already sl.opTicket)
  | .on => (s, ticketReply .already sl.lastTicket)
  | .drain => (s, ticketReply .busy 0)
  | .vacant => (s, ticketReply .noModule 0)
  | .faulted => (s, ticketReply .faulted 0)

/-- POWER-ON (R21, R22): the slot's hold-off window is cancelled before the checks. -/
def powerOnRequest (payload : List Byte) (s : State) : State × List Byte :=
  match payload with
  | [n] =>
    match readSlotField n with
    | none => (s, ticketReply .badSlot 0)
    | some i =>
      let s1 := s.cancelHoldOff i
      match (s1.slot i).powerOnCheck with
      | some st => (s1, ticketReply st 0)
      | none => s1.powerOnPassed i
  | _ => (s, statusOnly .badLength)

def execPowerOn (tag : Byte) (payload : List Byte) (s : State) : Result :=
  .next (s.execute tag 0x20 payload (powerOnRequest payload))

/-- POWER-OFF (R63 to R68): the slot's hold-off window is cancelled before the force field is checked. -/
def powerOffRequest (payload : List Byte) (s : State) : State × List Byte :=
  match payload with
  | [n, f] =>
    match readSlotField n with
    | none => (s, ticketReply .badSlot 0)
    | some i =>
      let s1 := s.cancelHoldOff i
      match readFlag f with
      | none => (s1, ticketReply .badValue 0)
      | some force =>
        match s1.powerOffAction i force .host with
        | (s2, st, ticket) => (s2, ticketReply st ticket)
  | _ => (s, statusOnly .badLength)

def execPowerOff (tag : Byte) (payload : List Byte) (s : State) : Result :=
  .next (s.execute tag 0x21 payload (powerOffRequest payload))

/-- A slot record after CLEAR-FAULT (R103). Auto-start pending stays as it is (DEDUCED, log 19). -/
def Slot.clearedFault (sl : Slot) (clearCount : Bool) : Slot :=
  { sl with
    power := if sl.power = .faulted then (if sl.lines.present.held then .idle else .vacant) else sl.power
    faultCount := if clearCount then 0 else sl.faultCount }

/-- CLEAR-FAULT (R102, R103). -/
def clearFaultRequest (payload : List Byte) (s : State) : State × List Byte :=
  match payload with
  | [n, c] =>
    match readSlotField n with
    | none => (s, statusOnly .badSlot)
    | some i =>
      match readFlag c with
      | none => (s, statusOnly .badValue)
      | some clearCount =>
        let st := if (s.slot i).power = .faulted then Status.ok else .already
        let s1 := s.upd i fun sl => sl.clearedFault clearCount
        (s1, statusOnly st ++ u8 (s1.slot i).power.code ++ u8 (s1.slot i).faultCount)
  | _ => (s, statusOnly .badLength)

def execClearFault (tag : Byte) (payload : List Byte) (s : State) : Result :=
  .next (s.execute tag 0x22 payload (clearFaultRequest payload))

/-- The states in which a lock operation may start (R124): VACANT or IDLE, and FAULTED for UNLOCK. -/
def lockState (kind : OpKind) (st : PowerState) : Bool :=
  decide (st = .vacant) || decide (st = .idle) || (decide (st = .faulted) && decide (kind = .unlock))

/-- The checks of LOCK and UNLOCK after the slot number (R124), in order. -/
def Slot.lockCheck (sl : Slot) (kind : OpKind) : Option Status :=
  if sl.hardware.enabled = false then some .disabled
  else if sl.hardware.lockFitted = false then some .noLock
  else if lockState kind sl.power = false then some .inUse
  else if sl.operation.isSome then some .busy
  else none

/-- A lock operation starts (R124): ticket, operation, drive by the operation, deadline of 500 ms, and an end due at
once if the sense already shows the target. -/
def State.startLock (s : State) (i : SlotId) (kind : OpKind) : State :=
  let ticket := s.part.ticketCounter
  (s.startOperation i kind .host).upd i fun sl =>
    { sl with
      lockTimer := some 500
      lockEndDue := if sl.lines.lockSense.held = lockTarget kind then some ticket else sl.lockEndDue }

/-- LOCK and UNLOCK (R124). -/
def lockRequest (kind : OpKind) (payload : List Byte) (s : State) : State × List Byte :=
  match payload with
  | [n] =>
    match readSlotField n with
    | none => (s, ticketReply .badSlot 0)
    | some i =>
      match (s.slot i).lockCheck kind with
      | some st => (s, ticketReply st 0)
      | none => (s.startLock i kind, ticketReply .accepted s.part.ticketCounter)
  | _ => (s, statusOnly .badLength)

def execLock (tag : Byte) (payload : List Byte) (s : State) : Result :=
  .next (s.execute tag 0x23 payload (lockRequest .lock payload))

def execUnlock (tag : Byte) (payload : List Byte) (s : State) : Result :=
  .next (s.execute tag 0x24 payload (lockRequest .unlock payload))

/-- The four settings of a SET-INDICATOR, if each holds a value of its field (R135). -/
def readLamps (ph pa ah aa : Byte) : Option Lamps := do
  let powerHost ← readIndMode ph
  let powerAuto ← readFlag pa
  let attnHost ← readIndMode ah
  let attnAuto ← readFlag aa
  return ⟨powerHost, powerAuto, attnHost, attnAuto⟩

/-- SET-INDICATOR (R135). -/
def setIndicatorRequest (payload : List Byte) (s : State) : State × List Byte :=
  match payload with
  | [n, ph, pa, ah, aa] =>
    match readSlotField n with
    | none => (s, statusOnly .badSlot)
    | some i =>
      match readLamps ph pa ah aa with
      | none => (s, statusOnly .badValue)
      | some lamps =>
        let s1 := s.upd i fun sl => { sl with lamps := lamps }
        (s1, statusOnly .ok ++ lampBytes (s1.slot i))
  | _ => (s, statusOnly .badLength)

def execSetIndicator (tag : Byte) (payload : List Byte) (s : State) : Result :=
  .next (s.execute tag 0x25 payload (setIndicatorRequest payload))

/-- The six settings of a SET-SLOT (R180). -/
structure SlotSettings where
  priority : Nat
  profileIndex : Fin 4
  overrideDraw : Option Nat
  buttonPolicy : ButtonPolicy
  autoStart : Bool
  restoreAfterShed : Bool
  deriving DecidableEq, Repr

/-- The settings that the fields of a SET-SLOT carry, if each lies in its range (R179). -/
def readSettings (pr pi o1 o0 bp au rs : Byte) : Option SlotSettings := do
  let priority ← readRange 0 7 pr.toNat
  let profileIndex ← readProfileField pi
  let overrideDraw ← readOverride (be16 o1 o0)
  let buttonPolicy ← readButtonPolicy bp
  let autoStart ← readFlag au
  let restoreAfterShed ← readFlag rs
  return ⟨priority, profileIndex, overrideDraw, buttonPolicy, autoStart, restoreAfterShed⟩

/-- The slot's entry moves to the tail of its new priority group with a new enqueue stamp and a bypass count of 0,
keeping the rest, and the pass-due mark is set (R27). -/
def State.moveEntry (s : State) (i : SlotId) (priority : Nat) : State :=
  match s.admission.queue.find? fun e => decide (e.slot = i) with
  | none => s
  | some e =>
    let stamp := satInc stampTop s.admission.enqueueCounter
    let others := s.admission.queue.filter fun e => decide (e.slot ≠ i)
    { s with
      admission.enqueueCounter := stamp
      admission.queue := placeEntry { e with priority := priority, stamp := stamp, bypass := 0 } others
      admission.passDue := true }

/-- A slot record with new settings; a change to EVENT_ONLY cancels a running window (R116, R180). -/
def Slot.withSettings (sl : Slot) (t : SlotSettings) : Slot :=
  { sl with
    priority := t.priority, profileIndex := t.profileIndex, overrideDraw := t.overrideDraw,
    buttonPolicy := t.buttonPolicy, autoStart := t.autoStart, restoreAfterShed := t.restoreAfterShed
    holdOff := if sl.buttonPolicy = .toggle ∧ t.buttonPolicy = .eventOnly then none else sl.holdOff }

/-- The six settings as SET-SLOT's reply carries them (R171). -/
def settingsBytes (sl : Slot) : List Byte :=
  u8 sl.priority ++ u8 sl.profileIndex.val ++ u16 (absentCode sl.overrideDraw) ++ u8 sl.buttonPolicy.code ++
    flag sl.autoStart ++ flag sl.restoreAfterShed

/-- SET-SLOT (R179, R180). -/
def setSlotRequest (payload : List Byte) (s : State) : State × List Byte :=
  match payload with
  | [n, pr, pi, o1, o0, bp, au, rs] =>
    match readSlotField n with
    | none => (s, statusOnly .badSlot)
    | some i =>
      let sl := s.slot i
      if sl.hardware.enabled = false then (s, statusOnly .disabled)
      else
        match readSettings pr pi o1 o0 bp au rs with
        | none => (s, statusOnly .badValue)
        | some t =>
          let s1 := s.upd i fun sl => sl.withSettings t
          let s2 := if sl.power = .waiting ∧ t.priority ≠ sl.priority then s1.moveEntry i t.priority else s1
          (s2, statusOnly .ok ++ settingsBytes (s2.slot i))
  | _ => (s, statusOnly .badLength)

def execSetSlot (tag : Byte) (payload : List Byte) (s : State) : Result :=
  .next (s.execute tag 0x30 payload (setSlotRequest payload))

/-- The three settings of a SET-HARDWARE, if each is yes or no (R127). -/
def readHardware (e l t : Byte) : Option Hardware := do
  let enabled ← readFlag e
  let lockFitted ← readFlag l
  let surpriseTolerant ← readFlag t
  return ⟨enabled, lockFitted, surpriseTolerant⟩

/-- The checks of SET-HARDWARE after its fields (R127), in order. -/
def Slot.hardwareCheck (sl : Slot) (frozen : Bool) (h : Hardware) : Option Status :=
  if frozen then some .frozen
  else if sl.power ≠ .vacant ∧ sl.power ≠ .idle ∧ sl.power ≠ .faulted then some .inUse
  else if sl.lockOp.isSome ∧
      ¬(h.lockFitted = sl.hardware.lockFitted ∧ (h.enabled = false ∨ h.enabled = sl.hardware.enabled)) then some .busy
  else none

/-- The slot's pending set is emptied and every notice entry for it withdrawn, ALERT recomputed (R142). -/
def State.emptyEvents (s : State) (i : SlotId) : State :=
  let s1 := s.setPending (some i) 0
  ({ s1 with events.notices := s1.events.notices.filter fun n => decide (n.subject ≠ some i) } : State).realert

/-- A slot is disabled (R128): window cancelled, VACANT, events emptied, a lock operation DISCARDED. -/
def State.disable (s : State) (i : SlotId) : State :=
  let s1 := s.upd i fun sl => { sl with holdOff := none, power := .vacant, moduleClass := none, autoPending := false }
  let s2 := s1.emptyEvents i
  if (s2.slot i).lockOp.isSome then s2.endLock i .discarded else s2

/-- The class that the CLASS lines show (R110). -/
def BayLines.classLines (l : BayLines) : Fin 4 :=
  match l.class1, l.class0 with
  | false, false => 0
  | false, true => 1
  | true, false => 2
  | true, true => 3

/-- A module comes into service in a VACANT slot (R111, R129): class read, IDLE, auto-start pending, INSERTED, then
the auto-start attempt. -/
def State.moduleArrives (s : State) (i : SlotId) : State :=
  ((s.upd i fun sl =>
    { sl with moduleClass := some sl.lines.classLines, power := .idle, autoPending := true }).occur
      (some i) .inserted).autoAttempt i

/-- A slot is enabled (R129). -/
def State.enable (s : State) (i : SlotId) : State :=
  if (s.slot i).lines.present.held then s.moduleArrives i else s

/-- SET-HARDWARE (R127 to R129). -/
def setHardwareRequest (payload : List Byte) (s : State) : State × List Byte :=
  match payload with
  | [n, e, l, t] =>
    match readSlotField n with
    | none => (s, statusOnly .badSlot)
    | some i =>
      match readHardware e l t with
      | none => (s, statusOnly .badValue)
      | some h =>
        let sl := s.slot i
        match sl.hardwareCheck s.part.frozen h with
        | some st => (s, statusOnly st)
        | none =>
          let s1 := s.upd i fun sl => { sl with hardware := h }
          let s2 :=
            if sl.hardware.enabled = true ∧ h.enabled = false then s1.disable i
            else if sl.hardware.enabled = false ∧ h.enabled = true then s1.enable i
            else s1
          (s2, statusOnly .ok ++ hardwareBytes h)
  | _ => (s, statusOnly .badLength)

def execSetHardware (tag : Byte) (payload : List Byte) (s : State) : Result :=
  .next (s.execute tag 0x31 payload (setHardwareRequest payload))

end Sys2Proof.Machine
end

