-- ==== Sys2Proof/Machine/BaySense.lean ====
section
/-! DEFINITION. The happenings of the bay sense and controls (chapter 6): insertion and removal, the lever, the button
and its hold-off window, the lock sense and the ends of lock operations. In a disabled slot a change of a line is
followed by its filter and acts on nothing else (R109, R128). -/
namespace Sys2Proof.Machine

/-! ### Insertion and removal (R111 to R113) -/

/-- An insertion into an enabled slot (R111). Only VACANT and FAULTED hold no module (log 18). -/
def State.inserted (s : State) (i : SlotId) : State :=
  match (s.slot i).power with
  | .vacant => s.moduleArrives i
  | .faulted =>
    (s.upd i fun sl => { sl with moduleClass := some sl.lines.classLines, autoPending := true }).occur
      (some i) .inserted
  | .idle | .waiting | .auxRamp | .mainRamp | .settle | .readyWait | .on | .drain => s

/-- The debounced presence becomes present, the CLASS lines at the levels given (R110, R111). -/
def State.insertion (s : State) (i : SlotId) (class0 class1 : Bool) : State :=
  let s1 := s.updLines i fun l => { l with present := .take true, class0 := class0, class1 := class1 }
  if (s.slot i).hardware.enabled then s1.inserted i else s1

def execInsertion (i : SlotId) (class0 class1 : Bool) (s : State) : Result :=
  s.happen (!(s.slot i).lines.present.held) (s.insertion i class0 class1)

/-- The module is gone and the slot is VACANT: class absent, auto-start pending cleared (R112, R113). -/
def Slot.vacated (sl : Slot) : Slot := { sl with moduleClass := none, power := .vacant, autoPending := false }

/-- The class becomes absent (R110). -/
def State.dropClass (s : State) (i : SlotId) : State := s.upd i fun sl => { sl with moduleClass := none }

/-- The removal of a powered module from a surprise-tolerant slot (R113). -/
def State.tolerantRemoval (s : State) (i : SlotId) : State :=
  ((((s.cancelHoldOff i).cut i .vacant).endOperation i .removed).upd i Slot.vacated).occur (some i) .removed

/-- The fault REMOVED_LIVE, and then the removal as for FAULTED (R97, R113). -/
def State.removedLive (s : State) (i : SlotId) : State :=
  ((s.raiseFault i .removedLive).dropClass i).occur (some i) .removed

/-- The loss of presence in an enabled slot (R112, R113). -/
def State.removed (s : State) (i : SlotId) : State :=
  match (s.slot i).power with
  | .idle => ((s.cancelHoldOff i).upd i Slot.vacated).occur (some i) .removed
  | .waiting =>
    ((((s.cancelHoldOff i).leaveQueue i).endOperation i .removed).upd i Slot.vacated).occur (some i) .removed
  | .faulted => (s.dropClass i).occur (some i) .removed
  | .vacant => s.dropClass i
  | .auxRamp | .mainRamp | .settle | .readyWait | .on | .drain =>
    if (s.slot i).hardware.surpriseTolerant then s.tolerantRemoval i else s.removedLive i

/-- The debounced presence is lost (R112, R113, R97). -/
def State.removal (s : State) (i : SlotId) : State :=
  let s1 := s.updLines i fun l => { l with present := .take false }
  if (s.slot i).hardware.enabled then s1.removed i else s1

def execRemoval (i : SlotId) (s : State) : Result :=
  s.happen (s.slot i).lines.present.held (s.removal i)

/-! ### The lever (R115) -/

/-- What an opening of the lever does before LEVER is posted (R115): the fault LEVER_OPEN with a rail enabled (R96),
the end of a LOCK operation in VACANT or IDLE (R126). -/
def State.leverOpened (s : State) (i : SlotId) : State :=
  let sl := s.slot i
  if sl.power.powered then s.raiseFault i .leverOpen
  else if (sl.power = .vacant ∨ sl.power = .idle) ∧ sl.lockOp = some .lock then s.endLock i .leverOpen
  else s

/-- A closing of the lever (R115): LEVER; then the pass-due mark for a WAITING slot that is now seated (R29), or the
auto-start attempt in IDLE. -/
def State.leverClosed (s : State) (i : SlotId) : State :=
  let s1 := s.occur (some i) .lever
  if (s1.slot i).power = .waiting ∧ (s1.slot i).seated = true then s1.markPass else s1.autoAttempt i

/-- The debounced lever changes (R115). -/
def State.leverChange (s : State) (i : SlotId) (closed : Bool) : State :=
  let s1 := s.updLines i fun l => { l with lever := .take closed }
  if (s.slot i).hardware.enabled = false then s1
  else if closed then s1.leverClosed i
  else (s1.leverOpened i).occur (some i) .lever

def execLeverChange (i : SlotId) (closed : Bool) (s : State) : Result :=
  s.happen (decide ((s.slot i).lines.lever.held ≠ closed)) (s.leverChange i closed)

/-! ### The button (R116 to R118) -/

/-- A press under TOGGLE, after BUTTON has been posted (R117). -/
def State.togglePress (s : State) (i : SlotId) : State :=
  match (s.slot i).power with
  | .vacant | .faulted => s
  | .idle | .waiting | .auxRamp | .mainRamp | .settle | .readyWait | .on | .drain =>
    s.upd i fun sl => { sl with holdOff := if sl.holdOff.isSome then none else some (s.holdOffTime * 1000) }

/-- A press of the button (R116, R117). -/
def State.buttonPress (s : State) (i : SlotId) : State :=
  let s1 := s.updLines i fun l => { l with button := .take true }
  if (s.slot i).hardware.enabled = false then s1
  else
    let s2 := s1.occur (some i) .button
    match (s.slot i).buttonPolicy with
    | .eventOnly => s2
    | .toggle => s2.togglePress i

/-- The command is a press, whatever the debounced value was: a release has no row and acts on nothing (R116,
log 5). -/
def execButtonPress (i : SlotId) (s : State) : Result := .next (s.buttonPress i).finish

/-- A refused button power-on (R118, R49): last outcome REFUSED with the failing status, and OP_DONE. -/
def State.refuseButton (s : State) (i : SlotId) (st : Status) : State :=
  (s.upd i fun sl =>
    { sl with lastOutcome := some ⟨.powerOn, 0, .button, .refused, some st, s.part.uptime⟩ }).occur (some i) .opDone

/-- The expiry of the hold-off window (R118). -/
def State.windowExpires (s : State) (i : SlotId) : State :=
  let s1 := s.cancelHoldOff i
  match (s.slot i).power with
  | .idle =>
    match (s1.slot i).powerOnCheck with
    | none => s1.joinQueue i .button false
    | some st => s1.refuseButton i st
  | .waiting | .auxRamp | .mainRamp | .settle | .readyWait | .on => (s1.powerOffAction i false .button).1
  | .drain | .vacant | .faulted => s1

def execHoldOffExpiry (i : SlotId) (s : State) : Result :=
  s.happen (decide ((s.slot i).holdOff = some 0)) (s.windowExpires i)

/-! ### The lock sense (R123, R126) -/

/-- A change of the lock sense with no lock operation in flight, a lock being fitted (R123): LOCK; then, on becoming
engaged, the pass-due mark for a WAITING slot now seated (R29), or the auto-start attempt in IDLE. -/
def State.lockMoved (s : State) (i : SlotId) (engaged : Bool) : State :=
  let s1 := s.occur (some i) .lock
  if engaged = false then s1
  else if (s1.slot i).power = .waiting ∧ (s1.slot i).seated = true then s1.markPass
  else s1.autoAttempt i

/-- The debounced lock sense changes (R123, R126). -/
def State.lockSenseChange (s : State) (i : SlotId) (engaged : Bool) : State :=
  let s1 := s.updLines i fun l => { l with lockSense := .take engaged }
  let sl := s.slot i
  if sl.hardware.enabled = false ∨ sl.hardware.lockFitted = false then s1
  else
    match sl.lockOp with
    | some kind => if engaged = lockTarget kind then s1.lockDone i kind else s1
    | none => s1.lockMoved i engaged

def execLockSenseChange (i : SlotId) (engaged : Bool) (s : State) : Result :=
  s.happen (decide ((s.slot i).lines.lockSense.held ≠ engaged)) (s.lockSenseChange i engaged)

/-- The lock deadline expires (R126). -/
def execLockDeadlineExpiry (i : SlotId) (s : State) : Result :=
  s.happen (decide ((s.slot i).lockTimer = some 0) && (s.slot i).lockOp.isSome) (s.endLock i .lockTimeout)

/-- A lock end due at once is taken (R126): it ends the operation that made it due, known by its ticket, if the sense
still shows the target. -/
def State.dueLockEnd (s : State) (i : SlotId) : State :=
  let sl := s.slot i
  let s1 := s.upd i fun sl => { sl with lockEndDue := none }
  match sl.lockOp with
  | some kind =>
    if sl.lockEndDue = some sl.opTicket ∧ sl.lines.lockSense.held = lockTarget kind then s1.lockDone i kind else s1
  | none => s1

def execLockDueEnd (i : SlotId) (s : State) : Result :=
  s.happen (s.slot i).lockEndDue.isSome (s.dueLockEnd i)

end Sys2Proof.Machine
end

