-- ==== Sys2Proof/Machine/ConfigRequests.lean ====
section
/-! DEFINITION. The requests that write the part's settings: SET-SUPPLY, SET-BUDGET, SET-PROFILE, SET-CLASSES,
SET-BLINK and GATE. A payload of another length than R170 gives is answered BAD_LENGTH (R162). -/
namespace Sys2Proof.Machine

/-- The budget unit with a new capacity of one supply. -/
def Budget.withCapacity (b : Budget) (n : SupplyId) (capacity : Nat) : Budget :=
  { b with supplies := b.supplies.set n.val { b.supplies.get n with capacity := capacity } n.isLt }

/-- The reply OVER_COMMITTED: the ceiling the request would have produced and the committed total (R171). -/
def overCommittedReply (ceiling committed : Nat) : List Byte := statusOnly .overCommitted ++ u32 ceiling ++ u32 committed

/-- SET-SUPPLY (R17). -/
def setSupplyRequest (payload : List Byte) (s : State) : State × List Byte :=
  match payload with
  | [n, c1, c0] =>
    match readSupplyField n, readRange 0 30000 (be16 c1 c0) with
    | some k, some capacity =>
      let b := s.budget.withCapacity k capacity
      if s.part.frozen then (s, statusOnly .frozen)
      else if (s.budget.supplies.get k).line.held = true ∧ b.computed < s.budget.committed then
        (s, overCommittedReply b.computed s.budget.committed)
      else
        let s1 := ({ s with budget := b } : State).recompute
        (s1, statusOnly .ok ++ u32 s1.budget.ceiling)
    | _, _ => (s, statusOnly .badValue)
  | _ => (s, statusOnly .badLength)

def execSetSupply (tag : Byte) (payload : List Byte) (s : State) : Result :=
  .next (s.execute tag 0x32 payload (setSupplyRequest payload))

/-- The six fields of a SET-BUDGET (R18). -/
structure BudgetSettings where
  reserve : Nat
  mode : BudgetMode
  policy : Policy
  bypassLimit : Nat
  positions : Nat
  holdOffTime : Nat
  deriving DecidableEq, Repr

/-- The settings that the fields of a SET-BUDGET carry, if each lies in its range (R18). -/
def readBudgetSettings (r3 r2 r1 r0 m p b k h : Byte) : Option BudgetSettings := do
  let reserve ← readRange 0 120000 (be32 r3 r2 r1 r0)
  let mode ← readBudgetMode m
  let policy ← readPolicy p
  let bypassLimit ← readRange 0 15 b.toNat
  let positions ← readRange 1 4 k.toNat
  let holdOffTime ← readRange 1 15 h.toNat
  return ⟨reserve, mode, policy, bypassLimit, positions, holdOffTime⟩

/-- The six settings are written together (R19). A change of the policy, the bypass limit or K sets the pass-due mark
(R31, R34). -/
def State.withBudgetSettings (s : State) (t : BudgetSettings) : State :=
  let changed := decide (t.policy ≠ s.admission.policy ∨ t.bypassLimit ≠ s.admission.bypassLimit ∨
    t.positions ≠ s.admission.positions)
  { s with
    budget.reserve := t.reserve
    budget.mode := t.mode
    admission.policy := t.policy
    admission.bypassLimit := t.bypassLimit
    admission.positions := t.positions
    admission.passDue := s.admission.passDue || changed
    holdOffTime := t.holdOffTime }

/-- SET-BUDGET (R18, R19). -/
def setBudgetRequest (payload : List Byte) (s : State) : State × List Byte :=
  match payload with
  | [r3, r2, r1, r0, m, p, b, k, h] =>
    match readBudgetSettings r3 r2 r1 r0 m p b k h with
    | none => (s, statusOnly .badValue)
    | some t =>
      let would := ceilingFor s.budget.supplies t.reserve t.mode
      if would < s.budget.committed then (s, overCommittedReply would s.budget.committed)
      else if t.positions < s.admission.inrushHeld then (s, statusOnly .inUse)
      else
        let s1 := (s.withBudgetSettings t).recompute
        (s1, statusOnly .ok ++ u32 s1.budget.ceiling)
  | _ => (s, statusOnly .badLength)

def execSetBudget (tag : Byte) (payload : List Byte) (s : State) : Result :=
  .next (s.execute tag 0x33 payload (setBudgetRequest payload))

/-- The profile that the fields of a SET-PROFILE carry, if each lies in its range (R52). -/
def readProfile (ax mn t1 t0 rr rt dg : Byte) : Option Profile := do
  let auxCode ← readRange 0 14 ax.toNat
  let mainCode ← readRange 0 14 mn.toNat
  let settleMs ← readRange 0 2000 (be16 t1 t0)
  let readyRequired ← readFlag rr
  let readyCode ← readRange 0 15 rt.toNat
  let graceCode ← readRange 0 15 dg.toNat
  return ⟨auxCode, mainCode, settleMs, readyRequired, readyCode, graceCode⟩

/-- SET-PROFILE (R52). -/
def setProfileRequest (payload : List Byte) (s : State) : State × List Byte :=
  match payload with
  | [n, ax, mn, t1, t0, rr, rt, dg] =>
    match readProfileField n, readProfile ax mn t1 t0 rr rt dg with
    | some k, some p => ({ s with profiles := s.profiles.set k.val p k.isLt }, statusOnly .ok)
    | _, _ => (s, statusOnly .badValue)
  | _ => (s, statusOnly .badLength)

def execSetProfile (tag : Byte) (payload : List Byte) (s : State) : Result :=
  .next (s.execute tag 0x34 payload (setProfileRequest payload))

/-- SET-CLASSES (R20). -/
def setClassesRequest (payload : List Byte) (s : State) : State × List Byte :=
  match payload with
  | [a1, a0, b1, b0, c1, c0, d1, d0] =>
    let draws : Vector Nat 4 := #v[be16 a1 a0, be16 b1 b0, be16 c1 c0, be16 d1 d0]
    if draws.toList.all (fun d => decide (d ≤ 20000)) then ({ s with budget.classDraws := draws }, statusOnly .ok)
    else (s, statusOnly .badValue)
  | _ => (s, statusOnly .badLength)

def execSetClasses (tag : Byte) (payload : List Byte) (s : State) : Result :=
  .next (s.execute tag 0x35 payload (setClassesRequest payload))

/-- A blink pattern of the part. -/
def State.pattern (s : State) : Pattern → BlinkPattern
  | .slow => s.slow
  | .fast => s.fast

/-- Write a blink pattern. -/
def State.setPattern (s : State) (p : Pattern) (b : BlinkPattern) : State :=
  match p with
  | .slow => { s with slow := b }
  | .fast => { s with fast := b }

/-- The pending values as SET-BLINK's reply carries them (R171). -/
def waitingBytes : Option (Nat × Nat) → List Byte
  | none => flag false ++ u16 0 ++ u16 0
  | some (period, onTime) => flag true ++ u16 period ++ u16 onTime

/-- SET-BLINK (R137). -/
def setBlinkRequest (payload : List Byte) (s : State) : State × List Byte :=
  match payload with
  | [pt, p1, p0, o1, o0] =>
    let period := be16 p1 p0
    let onTime := be16 o1 o0
    match readPattern pt, readRange 100 4000 period, readRange 0 period onTime with
    | some p, some _, some _ =>
      let b : BlinkPattern := { s.pattern p with waiting := some (period, onTime) }
      (s.setPattern p b, statusOnly .ok ++ u16 b.period ++ u16 b.onTime ++ waitingBytes b.waiting)
    | _, _, _ => (s, statusOnly .badValue)
  | _ => (s, statusOnly .badLength)

def execSetBlink (tag : Byte) (payload : List Byte) (s : State) : Result :=
  .next (s.execute tag 0x36 payload (setBlinkRequest payload))

/-- GATE (R33): every reply carries the gate as it stands afterwards. -/
def gateRequest (payload : List Byte) (s : State) : State × List Byte :=
  match payload with
  | [b] =>
    match readGate b with
    | none => (s, statusOnly .badValue ++ u8 s.admission.gate.code)
    | some g =>
      if g = s.admission.gate then (s, statusOnly .already ++ u8 g.code)
      else
        let s1 : State := { s with admission.gate := g }
        (if g = .opened then s1.markPass else s1, statusOnly .ok ++ u8 g.code)
  | _ => (s, statusOnly .badLength)

def execGate (tag : Byte) (payload : List Byte) (s : State) : Result :=
  .next (s.execute tag 0x37 payload (gateRequest payload))

end Sys2Proof.Machine
end

