-- ==== Sys2Proof/Machine/Sequencer.lean ====
section
/-! DEFINITION. The sequencers' happenings (chapter 3): rises of the rail-good and READY lines, the settle time,
stage deadlines, ends due at once, and the ends of a drain. A change of a debounced line arises only from the opposite
value; an expiry arises only at the tick at which its count reaches 0 (R51, log 6). -/
namespace Sys2Proof.Machine

/-- The debounced AUX_GOOD of a slot takes a value. -/
def State.takeAuxGood (s : State) (i : SlotId) (v : Bool) : State :=
  s.updLines i fun l => { l with auxGood := .take v }

/-- The debounced MAIN_GOOD of a slot takes a value. -/
def State.takeMainGood (s : State) (i : SlotId) (v : Bool) : State :=
  s.updLines i fun l => { l with mainGood := .take v }

/-- The debounced READY of a slot takes a value. -/
def State.takeReady (s : State) (i : SlotId) (v : Bool) : State :=
  s.updLines i fun l => { l with ready := .take v }

/-- AUX_GOOD rises (R56); outside AUX_RAMP it acts on nothing more (R60). -/
def State.auxGoodRise (s : State) (i : SlotId) : State :=
  let s1 := s.takeAuxGood i true
  if (s.slot i).power = .auxRamp then s1.endAuxRamp i false else s1

def execAuxGoodRises (i : SlotId) (s : State) : Result :=
  s.happen (!(s.slot i).lines.auxGood.held) (s.auxGoodRise i)

/-- MAIN_GOOD rises (R57); outside MAIN_RAMP it acts on nothing more (R60). -/
def State.mainGoodRise (s : State) (i : SlotId) : State :=
  let s1 := s.takeMainGood i true
  if (s.slot i).power = .mainRamp then s1.endMainRamp i false else s1

def execMainGoodRises (i : SlotId) (s : State) : Result :=
  s.happen (!(s.slot i).lines.mainGood.held) (s.mainGoodRise i)

/-- The settle timer expires in SETTLE (R58). -/
def execSettleTimeEnds (i : SlotId) (s : State) : Result :=
  s.happen (decide ((s.slot i).power = .settle ∧ (s.slot i).stageTimer = some 0)) (s.endSettle i)

/-- READY rises (R59); outside READY_WAIT it acts on nothing more (R60). -/
def State.readyRise (s : State) (i : SlotId) : State :=
  let s1 := s.takeReady i true
  if (s.slot i).power = .readyWait then s1.endReadyWait i else s1

def execReadyRises (i : SlotId) (s : State) : Result :=
  s.happen (!(s.slot i).lines.ready.held) (s.readyRise i)

/-- A stage end due at once is taken: it acts as the stage's ending rule gives (R51, R56 to R59). -/
def State.stageEnd (s : State) (i : SlotId) : State :=
  match (s.slot i).power with
  | .auxRamp => s.endAuxRamp i true
  | .mainRamp => s.endMainRamp i true
  | .settle => s.endSettle i
  | .readyWait => s.endReadyWait i
  | .vacant | .idle | .waiting | .on | .drain | .faulted => s

/-- The power-on stages: AUX_RAMP to READY_WAIT (R55 to R59). -/
def PowerState.ramping : PowerState → Bool
  | .auxRamp | .mainRamp | .settle | .readyWait => true
  | .vacant | .idle | .waiting | .on | .drain | .faulted => false

def execStageDueEnd (i : SlotId) (s : State) : Result :=
  s.happen ((s.slot i).endDue && (s.slot i).power.ramping) (s.stageEnd i)

/-- The fault that the expiry of a stage's deadline raises (R61, R93). -/
def PowerState.timeoutFault : PowerState → Option FaultKind
  | .auxRamp => some .auxTimeout
  | .mainRamp => some .mainTimeout
  | .readyWait => some .readyTimeout
  | .vacant | .idle | .waiting | .settle | .on | .drain | .faulted => none

/-- The expiry of a stage deadline (R61). -/
def State.deadlineExpiry (s : State) (i : SlotId) : State :=
  match (s.slot i).power.timeoutFault with
  | some kind => s.raiseFault i kind
  | none => s

def execStageDeadlineExpiry (i : SlotId) (s : State) : Result :=
  s.happen (decide ((s.slot i).stageTimer = some 0) && (s.slot i).power.timeoutFault.isSome) (s.deadlineExpiry i)

/-- READY falls (R71): in a drain with ready-required yes it ends the drain DONE; elsewhere it acts on nothing more
(R60). -/
def State.readyFall (s : State) (i : SlotId) : State :=
  let s1 := s.takeReady i false
  if (s.slot i).power = .drain ∧ (s.slot i).readyRequired = true then s1.endDrain i .done else s1

def execReadyFalls (i : SlotId) (s : State) : Result :=
  s.happen (s.slot i).lines.ready.held (s.readyFall i)

/-- The outcome of a drain whose grace has run out (R72). -/
def graceOutcome (readyRequired : Bool) : OutcomeKind := if readyRequired then .drainExpired else .done

/-- The drain grace deadline expires in DRAIN (R72). -/
def execDrainGraceExpiry (i : SlotId) (s : State) : Result :=
  s.happen (decide ((s.slot i).power = .drain ∧ (s.slot i).stageTimer = some 0))
    (s.endDrain i (graceOutcome (s.slot i).readyRequired))

/-- A drain end due at once is taken (R70): the drain ends DONE. -/
def execDrainDueEnd (i : SlotId) (s : State) : Result :=
  s.happen ((s.slot i).endDue && decide ((s.slot i).power = .drain)) (s.endDrain i .done)

end Sys2Proof.Machine
end

