-- ==== Sys2Proof/Machine/FaultMonitor.lean ====
section
/-! DEFINITION. The fault monitors' happenings (chapter 5): the FAULT line, the falls of the rail-good lines, and the
faults due at once. -/
namespace Sys2Proof.Machine

/-- The debounced FAULT line of a slot takes a value. -/
def State.takeFault (s : State) (i : SlotId) (v : Bool) : State :=
  s.updLines i fun l => { l with fault := .take v }

/-- The FAULT line rises (R95): with some rail enabled it is the fault OVERCURRENT. -/
def State.faultLineRise (s : State) (i : SlotId) : State :=
  let s1 := s.takeFault i true
  if (s.slot i).power.powered then s1.raiseFault i .overcurrent else s1

/-- The command is a rise, whatever the debounced value was: a fall has no row and acts on nothing (R95, log 5). -/
def execFaultLineRises (i : SlotId) (s : State) : Result := .next (s.faultLineRise i).finish

/-- A due OVERCURRENT is taken (R95): it is a fault if a rail is enabled and FAULT is still asserted. -/
def State.dueOvercurrent (s : State) (i : SlotId) : State :=
  let s1 := s.upd i fun sl => { sl with overcurrentDue := false }
  if (s.slot i).power.powered ∧ (s.slot i).lines.fault.held = true then s1.raiseFault i .overcurrent else s1

def execOvercurrentDue (i : SlotId) (s : State) : Result :=
  s.happen (s.slot i).overcurrentDue (s.dueOvercurrent i)

/-- A rail's debounced good line of a slot. -/
def BayLines.railGood (l : BayLines) : Rail → Bool
  | .aux => l.auxGood.held
  | .main => l.mainGood.held

/-- A rail's debounced good line falls. -/
def State.takeRailDown (s : State) (i : SlotId) : Rail → State
  | .aux => s.takeAuxGood i false
  | .main => s.takeMainGood i false

/-- A rail's good line falls (R94): RAIL_LOST if the rail has come up and is still enabled. -/
def State.railFall (s : State) (i : SlotId) (rail : Rail) : State :=
  let s1 := s.takeRailDown i rail
  if (s.slot i).power.railUp rail then s1.raiseFault i .railLost else s1

def execRailGoodFalls (i : SlotId) (rail : Rail) (s : State) : Result :=
  s.happen ((s.slot i).lines.railGood rail) (s.railFall i rail)

/-- A RAIL_LOST of a rail is due (R94). -/
def Slot.railLostDue (sl : Slot) : Rail → Bool
  | .aux => sl.auxLostDue
  | .main => sl.mainLostDue

/-- A slot record with the due RAIL_LOST of a rail taken. -/
def Slot.withoutRailLost (sl : Slot) : Rail → Slot
  | .aux => { sl with auxLostDue := false }
  | .main => { sl with mainLostDue := false }

/-- A due RAIL_LOST is taken (R94): a fault if the rail is still enabled and its good line still deasserted. -/
def State.dueRailLost (s : State) (i : SlotId) (rail : Rail) : State :=
  let s1 := s.upd i fun sl => sl.withoutRailLost rail
  if (s.slot i).power.railEnabled rail = true ∧ (s.slot i).lines.railGood rail = false then s1.raiseFault i .railLost
  else s1

def execRailLostDue (i : SlotId) (rail : Rail) (s : State) : Result :=
  s.happen ((s.slot i).railLostDue rail) (s.dueRailLost i rail)

end Sys2Proof.Machine
end

