-- ==== Sys2Proof/Machine/Indicators.lean ====
section
/-! DEFINITION. The happenings of the blink patterns (chapter 7). The raise of a phase that leaves the on-time or
wraps is a happening of the tick that makes it (log 13). -/
namespace Sys2Proof.Machine

/-- A pattern at its period boundary (R138): phase 0, and the pending values applied. -/
def BlinkPattern.boundary (b : BlinkPattern) : BlinkPattern :=
  match b.waiting with
  | none => { b with phase := 0, crossing := false }
  | some (period, onTime) => ⟨period, onTime, 0, none, false⟩

/-- The raise of the phase at this tick would reach the period (R136). -/
def BlinkPattern.atBoundary (b : BlinkPattern) : Bool := b.crossing && decide (b.period ≤ b.phase + 1)

/-- The raise of the phase at this tick leaves the on-time within the period (R132). -/
def BlinkPattern.atOnTimeEnd (b : BlinkPattern) : Bool :=
  b.crossing && decide (b.phase + 1 < b.period) && decide (b.phase + 1 = b.onTime)

/-- A pattern past its on-time: the phase is raised by 1 (R136). -/
def BlinkPattern.leaveOnTime (b : BlinkPattern) : BlinkPattern := { b with phase := b.phase + 1, crossing := false }

/-- A blink pattern changes, and every output takes the level its mode gives (R132, R138). -/
def State.changePattern (s : State) (p : Pattern) (b : BlinkPattern) : State := (s.setPattern p b).redrive

def execBlinkPeriodBoundary (p : Pattern) (s : State) : Result :=
  s.happen (s.pattern p).atBoundary (s.changePattern p (s.pattern p).boundary)

def execBlinkOnTimeEnd (p : Pattern) (s : State) : Result :=
  s.happen (s.pattern p).atOnTimeEnd (s.changePattern p (s.pattern p).leaveOnTime)

end Sys2Proof.Machine
end

