-- ==== Sys2Proof/Machine/Link.lean ====
section
/-! DEFINITION. The happenings of the host link (chapter 9): received characters, the judgement of a frame, the gap
abort, the link reset, and the end of a frame on LINK_TX. -/
namespace Sys2Proof.Machine

/-- A frame that has arrived whole joins the request queue (R159, R161). -/
def Port.acceptFrame (p : Port) (tag kind : Byte) (payload : List Byte) : Port :=
  { p with
    requests := p.requests ++ [⟨tag, kind, payload, none⟩]
    framesAccepted := satInc counterTop p.framesAccepted }

/-- The judgement of a complete frame (R159): the first case that applies decides. -/
def Port.judgeFrame (p : Port) (len tag kind : Byte) (payload : List Byte) (check : Word16) : Port :=
  if frameCheck len tag kind payload ≠ check then
    ({ p with checkFailures := satInc counterTop p.checkFailures }).produceReject .badCheck 0
  else if tag = 0 then p.produceReject .badTag 0
  else if p.requests.any (fun r => decide (r.tag = tag)) then p.produceReject .dupTag tag
  else if 8 ≤ p.requests.length then p.produceReject .portFull tag
  else p.acceptFrame tag kind payload

/-- The receiver after KIND: BODY if LEN is above 0, otherwise CHECK (R157). -/
def Receiver.afterKind (len tag kind : Byte) : Receiver :=
  if len.toNat = 0 then .checkHigh len tag kind [] else .body len tag kind [] len.toNat

/-- The receiver after one more payload byte: CHECK after the last (R157). -/
def Receiver.afterPayload (len tag kind : Byte) (taken : List Byte) (due : Nat) : Receiver :=
  if due ≤ 1 then .checkHigh len tag kind taken else .body len tag kind taken (due - 1)

/-- A byte is taken by the receiver (R157): the gap count starts again (R158). -/
def Port.receive (p : Port) (b : Byte) : Port :=
  let p := { p with gap := 0, rxHeld := false }
  match p.receiver with
  | .hunt => if b = 0xA5 then { p with receiver := .headerLen } else p
  | .headerLen =>
    if 120 < b.toNat then { p with receiver := .hunt, lengthErrors := satInc counterTop p.lengthErrors }
    else { p with receiver := .headerTag b }
  | .headerTag len => { p with receiver := .headerKind len b }
  | .headerKind len tag => { p with receiver := .afterKind len tag b }
  | .body len tag kind taken due => { p with receiver := .afterPayload len tag kind (taken ++ [b]) due }
  | .checkHigh len tag kind payload => { p with receiver := .checkLow len tag kind payload b }
  | .checkLow len tag kind payload high =>
    ({ p with receiver := .hunt }).judgeFrame len tag kind payload (high ++ b)

/-- A character with its stop bit at mark (R156, R157). It can come only after LINK_RX has returned to mark
(log 21). -/
def execByteReceived (b : Byte) (s : State) : Result :=
  .next ({ s with port := s.port.receive b } : State).finish

/-- The frame being received is abandoned: HUNT, where no gap count runs (R157, R158). -/
def Port.abandonFrame (p : Port) : Port := { p with receiver := .hunt, gap := 0 }

/-- A character without its stop bit (R156): no counter is raised and no reply sent. -/
def execCharacterWithoutStopBit (s : State) : Result :=
  .next ({ s with port := { s.port.abandonFrame with rxHeld := false } } : State).finish

/-- A gap count runs: outside HUNT (R158). -/
def Receiver.running : Receiver → Bool
  | .hunt => false
  | .headerLen | .headerTag _ | .headerKind _ _ | .body _ _ _ _ _ | .checkHigh _ _ _ _ | .checkLow _ _ _ _ _ => true

/-- The gap count has reached 11 (R158). -/
def Port.gapDue (p : Port) : Bool := p.receiver.running && decide (11 ≤ p.gap)

/-- The gap abort (R158). -/
def execGapAbort (s : State) : Result :=
  s.happen s.port.gapDue { s with port := { s.port.abandonFrame with gapAborts := satInc counterTop s.port.gapAborts } }

/-- A restart asked for becomes due: at the end of its reply's frame, or at a link reset (R162, R165). -/
def RestartAsk.becomeDue : RestartAsk → RestartAsk
  | .asked keepPower => .due keepPower
  | .none => .none
  | .due keepPower => .due keepPower

/-- The port after a link reset (R164): both directions idle, requests and rejects forgotten, credit 0. The link rate
and the counters are kept. -/
def Port.linkReset (p : Port) : Port :=
  { p.abandonFrame with
    sending := none, requests := [], ready := [], credit := 0, rxHeld := true, offerDue := false }

/-- The link reset (R164, R165). -/
def execLinkReset (s : State) : Result :=
  .next { s with port := s.port.linkReset, part.restartAsk := s.part.restartAsk.becomeDue }

/-- The frame is the OK reply of a RESTART request (R162, R175). -/
def TxFrame.isRestartReply : TxFrame → Bool
  | .reply kind _ payload => decide (kind = 0x7F) && decide (payload = statusOnly .ok)
  | .reject _ _ => false
  | .notice _ => false

/-- The end of the frame being sent (R163): the arbiter makes an offer; at the end of a RESTART's reply the requested
restart becomes due instead (R162, R184, log 11). -/
def State.endFrame (s : State) : State :=
  match s.port.sending with
  | none => s
  | some f =>
    if f.isRestartReply then
      { s with port.sending := none, part.restartAsk := s.part.restartAsk.becomeDue }
    else { s with port.sending := none, port.offerDue := true }

def execFrameEnd (s : State) : Result := s.happen s.port.sending.isSome s.endFrame

end Sys2Proof.Machine
end

