-- ==== Sys2Proof/WellFormed.lean ====
section
/-! DEFINITION. Which commands are well formed: a request that the port can hold has a tag from 1 to 255 and at most
120 payload bytes (R156, R161), and the BAD_KIND row is for KINDs that are no request code (R162). The operands of
the other rows are of types that hold well-formed values only. -/
namespace Sys2Proof

/-- The request codes (R156, the table of request codes). -/
def requestCodes : List Byte :=
  [0x01, 0x02, 0x03, 0x04, 0x10, 0x11, 0x12, 0x13, 0x14, 0x15, 0x20, 0x21, 0x22, 0x23, 0x24, 0x25] ++
  [0x30, 0x31, 0x32, 0x33, 0x34, 0x35, 0x36, 0x37, 0x3F, 0x7F]

/-- A tag and a payload that a request of the queue can have (R161). -/
def requestOk (tag : Byte) (payload : List Byte) : Bool :=
  tag != 0 && decide (payload.length ≤ 120)

/-- The tag, the KIND and the payload of the request that a command executes; none for the other rows. -/
def Instr.request : Instr → Option (Byte × Byte × List Byte)
  | .identify t p => some (t, 0x01, p)
  | .grant t p => some (t, 0x02, p)
  | .readLink t p => some (t, 0x03, p)
  | .setNotices t p => some (t, 0x04, p)
  | .readSlot t p => some (t, 0x10, p)
  | .readQueue t p => some (t, 0x11, p)
  | .readBudget t p => some (t, 0x12, p)
  | .readEvents t p => some (t, 0x13, p)
  | .ackEvents t p => some (t, 0x14, p)
  | .readProfile t p => some (t, 0x15, p)
  | .powerOn t p => some (t, 0x20, p)
  | .powerOff t p => some (t, 0x21, p)
  | .clearFault t p => some (t, 0x22, p)
  | .lock t p => some (t, 0x23, p)
  | .unlock t p => some (t, 0x24, p)
  | .setIndicator t p => some (t, 0x25, p)
  | .setSlot t p => some (t, 0x30, p)
  | .setHardware t p => some (t, 0x31, p)
  | .setSupply t p => some (t, 0x32, p)
  | .setBudget t p => some (t, 0x33, p)
  | .setProfile t p => some (t, 0x34, p)
  | .setClasses t p => some (t, 0x35, p)
  | .setBlink t p => some (t, 0x36, p)
  | .gate t p => some (t, 0x37, p)
  | .freeze t p => some (t, 0x3F, p)
  | .restart t p => some (t, 0x7F, p)
  | .badKind t k p => some (t, k, p)
  | .byteReceived _ => none
  | .characterWithoutStopBit => none
  | .gapAbort => none
  | .linkReset => none
  | .frameEnd => none
  | .supplyGoodChange _ _ => none
  | .admissionPass => none
  | .auxGoodRises _ => none
  | .mainGoodRises _ => none
  | .settleTimeEnds _ => none
  | .readyRises _ => none
  | .stageDueEnd _ => none
  | .stageDeadlineExpiry _ => none
  | .readyFalls _ => none
  | .drainGraceExpiry _ => none
  | .drainDueEnd _ => none
  | .faultLineRises _ => none
  | .overcurrentDue _ => none
  | .railGoodFalls _ _ => none
  | .railLostDue _ _ => none
  | .insertion _ _ _ => none
  | .removal _ => none
  | .leverChange _ _ => none
  | .buttonPress _ => none
  | .holdOffExpiry _ => none
  | .lockSenseChange _ _ => none
  | .lockDeadlineExpiry _ => none
  | .lockDueEnd _ => none
  | .blinkPeriodBoundary _ => none
  | .blinkOnTimeEnd _ => none
  | .powerOnReset _ _ => none
  | .restartLineRise => none
  | .requestedRestart => none

/-- The row is the BAD_KIND row. -/
def Instr.isBadKind : Instr → Bool
  | .badKind _ _ _ => true
  | _ => false

/-- A command is well formed. -/
def Instr.wellFormed (c : Instr) : Bool :=
  match c.request with
  | some (t, k, p) => requestOk t p && (!c.isBadKind || !requestCodes.contains k)
  | none => true

end Sys2Proof
end

