-- ==== Sys2Proof/Decode.lean ====
section
/-! DEFINITION. Reading commands. The table of this block gives no row any bits, so no word spells a command; what
does spell a command is the KIND of a request frame (R156, R162), read by `requestCommand`. -/
namespace Sys2Proof

/-- The command that the host's word spells by the table's bits: no row gives bits, so no word spells one. -/
def decodeTableWord (_nbits _w : Nat) : Option Instr := none

/-- The command that is the execution of a request with this tag, KIND and payload: the row of the KIND by the table
of request codes (R156), and the BAD_KIND row where KIND is none of them (R162). -/
def requestCommand (tag kind : Byte) (payload : List Byte) : Instr :=
  match kind.toNat with
  | 0x01 => .identify tag payload
  | 0x02 => .grant tag payload
  | 0x03 => .readLink tag payload
  | 0x04 => .setNotices tag payload
  | 0x10 => .readSlot tag payload
  | 0x11 => .readQueue tag payload
  | 0x12 => .readBudget tag payload
  | 0x13 => .readEvents tag payload
  | 0x14 => .ackEvents tag payload
  | 0x15 => .readProfile tag payload
  | 0x20 => .powerOn tag payload
  | 0x21 => .powerOff tag payload
  | 0x22 => .clearFault tag payload
  | 0x23 => .lock tag payload
  | 0x24 => .unlock tag payload
  | 0x25 => .setIndicator tag payload
  | 0x30 => .setSlot tag payload
  | 0x31 => .setHardware tag payload
  | 0x32 => .setSupply tag payload
  | 0x33 => .setBudget tag payload
  | 0x34 => .setProfile tag payload
  | 0x35 => .setClasses tag payload
  | 0x36 => .setBlink tag payload
  | 0x37 => .gate tag payload
  | 0x3F => .freeze tag payload
  | 0x7F => .restart tag payload
  | _ => .badKind tag kind payload

end Sys2Proof
end

