-- ==== Sys2Proof/Machine/PartRequests.lean ====
section
/-! DEFINITION. The requests of the message port and of the part-wide block: IDENTIFY, GRANT, READ-LINK, SET-NOTICES,
FREEZE, RESTART, and a request whose KIND is no request code. A payload of another length than R170 gives is answered
BAD_LENGTH (R162). -/
namespace Sys2Proof.Machine

/-- IDENTIFY (R173). -/
def identifyRequest (payload : List Byte) (s : State) : State × List Byte :=
  match payload with
  | [] =>
    (s, statusOnly .ok ++ u16 0x0B7A ++ u16 0x0024 ++ u8 1 ++ u8 24 ++ u8 4 ++ u8 1 ++ u8 s.part.restartCause.code ++
      flag s.part.frozen ++ u32 s.part.uptime.toNat)
  | _ => (s, statusOnly .badLength)

def execIdentify (tag : Byte) (payload : List Byte) (s : State) : Result :=
  .next (s.execute tag 0x01 payload (identifyRequest payload))

/-- GRANT (R151): a sum above 64 makes the credit 64. -/
def grantRequest (payload : List Byte) (s : State) : State × List Byte :=
  match payload with
  | [amount] =>
    let credit := min 64 (s.port.credit + amount.toNat)
    ({ s with port.credit := credit }, statusOnly .ok ++ u8 credit)
  | _ => (s, statusOnly .badLength)

def execGrant (tag : Byte) (payload : List Byte) (s : State) : Result :=
  .next (s.execute tag 0x02 payload (grantRequest payload))

/-- The five link counters at 0 (R166). -/
def Port.clearCounters (p : Port) : Port :=
  { p with framesAccepted := 0, checkFailures := 0, gapAborts := 0, lengthErrors := 0, droppedRejects := 0 }

/-- READ-LINK (R167): the reply's contents are taken before the counters are cleared. -/
def readLinkRequest (payload : List Byte) (s : State) : State × List Byte :=
  match payload with
  | [b] =>
    match readFlag b with
    | none => (s, statusOnly .badValue)
    | some clear =>
      let p := s.port
      (if clear then { s with port := p.clearCounters } else s,
        statusOnly .ok ++ u16 p.framesAccepted ++ u16 p.checkFailures ++ u16 p.gapAborts ++ u16 p.lengthErrors ++
          u16 p.droppedRejects ++ u8 p.linkRate)
  | _ => (s, statusOnly .badLength)

def execReadLink (tag : Byte) (payload : List Byte) (s : State) : Result :=
  .next (s.execute tag 0x03 payload (readLinkRequest payload))

/-- SET-NOTICES (R149): both masks together, ALERT recomputed. -/
def setNoticesRequest (payload : List Byte) (s : State) : State × List Byte :=
  match payload with
  | [n1, n0, a1, a0] =>
    let noticeMask := kindSet n1 n0
    let alertMask := kindSet a1 a0
    if within noticeMask allKinds && within alertMask allKinds then
      (({ s with events.noticeMask := noticeMask, events.alertMask := alertMask } : State).realert,
        statusOnly .ok ++ u16 noticeMask.toNat ++ u16 alertMask.toNat)
    else (s, statusOnly .badValue)
  | _ => (s, statusOnly .badLength)

def execSetNotices (tag : Byte) (payload : List Byte) (s : State) : Result :=
  .next (s.execute tag 0x04 payload (setNoticesRequest payload))

/-- FREEZE (R174). -/
def freezeRequest (payload : List Byte) (s : State) : State × List Byte :=
  match payload with
  | [] =>
    if s.part.frozen then (s, statusOnly .already)
    else ({ s with part.frozen := true }, statusOnly .ok)
  | _ => (s, statusOnly .badLength)

def execFreeze (tag : Byte) (payload : List Byte) (s : State) : Result :=
  .next (s.execute tag 0x3F payload (freezeRequest payload))

/-- RESTART (R175): keep-power set asks for a ride-through restart, clear for a full one. -/
def restartRequest (payload : List Byte) (s : State) : State × List Byte :=
  match payload with
  | [b] =>
    match readFlag b with
    | none => (s, statusOnly .badValue)
    | some keepPower => ({ s with part.restartAsk := .asked keepPower }, statusOnly .ok)
  | _ => (s, statusOnly .badLength)

def execRestart (tag : Byte) (payload : List Byte) (s : State) : Result :=
  .next (s.execute tag 0x7F payload (restartRequest payload))

/-- A request whose KIND is no request code (R162): BAD_KIND, and nothing changes. -/
def badKindRequest (s : State) : State × List Byte := (s, statusOnly .badKind)

def execBadKind (tag kind : Byte) (payload : List Byte) (s : State) : Result :=
  if requestCommand tag kind payload = .badKind tag kind payload then
    .next (s.execute tag kind payload badKindRequest)
  else .next s

end Sys2Proof.Machine
end

