-- ==== Sys2Proof/Machine/Restart.lean ====
section
/-! DEFINITION. The restarts (chapter 11): power-on reset, ride-through restart and full restart. -/
namespace Sys2Proof.Machine

/-! ### Power-on reset (R182) -/

/-- A filter that starts deasserted and takes its first sample at uptime 0 (R2, R45, R92, R109; DEDUCED,
log 14). -/
def Line.firstCount (l : Line) : Line := ⟨l.level, false, if l.level then 1 else 0⟩

/-- A filter that starts at the level of its first sample, which is no change (R109, R183). -/
def Line.firstLevel (l : Line) : Line := ⟨l.level, l.level, 0⟩

/-- The lines of a bay after the first samples (R45, R92, R109). -/
def BayLines.firstSamples (l : BayLines) : BayLines :=
  { present := l.present.firstCount, lever := l.lever.firstLevel, button := l.button.firstLevel,
    lockSense := l.lockSense.firstLevel, auxGood := l.auxGood.firstCount, mainGood := l.mainGood.firstCount,
    ready := l.ready.firstCount, fault := l.fault.firstCount, class0 := l.class0, class1 := l.class1 }

/-- The rate code of the straps (R156). -/
def rateCode (rateA rateB : Bool) : Nat := (if rateB then 2 else 0) + (if rateA then 1 else 0)

/-- Power-on (R182): the values of a power-on reset, the rate of the straps, the first samples of the lines as their
pins stand at uptime 0. What waits outside the part (commands, coming changes of the pins) is kept (log 25). -/
def State.powerOnReset (s : State) (rateA rateB : Bool) : State :=
  { State.reset with
    part := { PartWide.reset with restartLine := s.part.restartLine.firstLevel, rateA := rateA, rateB := rateB }
    budget :=
      { Budget.reset with
        supplies := s.budget.supplies.map fun p => { Supply.reset with line := p.line.firstCount } }
    slots := s.slots.map fun sl => { Slot.reset with lines := sl.lines.firstSamples }
    port := .reset (rateCode rateA rateB)
    pending := s.pending, wires := s.wires, choices := s.choices }

def execPowerOnReset (rateA rateB : Bool) (s : State) : Result := .next (s.powerOnReset rateA rateB)

/-! ### What both restart forms do -/

/-- The port after a restart (R168): everything but the link rate starts anew. A space held on LINK_RX is the line's,
and stays (DEDUCED, log 22). -/
def Port.restarted (p : Port) : Port := { Port.reset p.linkRate with rxHeld := p.rxHeld }

/-- The event unit emptied, its overflow fields clear and its masks at their defaults (R155). -/
def Events.cleared (e : Events) : Events :=
  { e with
    pendingZero := 0, notices := [], overflow := false, announced := false, lostCount := 0, overflowStamp := none
    noticeMask := allKinds, alertMask := alertDefault }

/-- The event unit's part of a restart: the 25 sets and the notice queue are emptied, and RESTARTED is posted (R155,
R185). -/
def State.restartEvents (s : State) : State :=
  ({ s with
      events := s.events.cleared
      slots := s.slots.map fun sl => { sl with pendingSet := 0 } } : State).occur none .restarted

/-- The restart cause takes its value, and no requested restart remains (R181, R184). -/
def State.restartCaused (s : State) (cause : RestartCause) : State :=
  { s with part.restartCause := cause, part.restartAsk := .none }

/-! ### The ride-through restart (R185) -/

/-- Step 2 (R185): the window is cancelled, and a lock operation ends DISCARDED with its last outcome written and no
OP_DONE posted. -/
def Slot.discardControls (sl : Slot) (now : Word32) : Slot :=
  let sl := { sl with holdOff := none, lockTimer := none, lockEndDue := none }
  match sl.operation with
  | some o => if o.kind.isLock then { sl with operation := none, lastOutcome := some (o.ended .discarded now) } else sl
  | none => sl

/-- Step 3 (R185): a WAITING slot becomes IDLE, its operation discarded without an outcome. -/
def Slot.leaveWaiting (sl : Slot) : Slot :=
  if sl.power = .waiting then { sl with power := .idle, operation := none } else sl

/-- The state of a slot cut by a ride-through restart: IDLE, or VACANT without a module (R185). -/
def Slot.restartState (sl : Slot) : PowerState := if sl.lines.present.held then .idle else .vacant

/-- A slot cut by a ride-through restart, its operation discarded without an outcome (R185). -/
def Slot.afterRestartCut (sl : Slot) : Slot :=
  let sl := { sl with operation := none }
  if sl.power = .vacant then sl.vacated else sl

/-- Step 4 for one slot (R185): AUX_RAMP to READY_WAIT and DRAIN are cut; ON and the rest stay. -/
def State.rideThroughSlot (s : State) (i : SlotId) : State :=
  let sl := s.slot i
  if sl.power.powered = true ∧ sl.power ≠ .on then
    (s.cutQuiet i sl.restartState).upd i Slot.afterRestartCut
  else s

/-- Steps 2 and 3 for every slot (R185), and the admission queue emptied with its mark. -/
def State.rideThroughControls (s : State) : State :=
  { s with
    slots := s.slots.map fun sl =>
      ((sl.discardControls s.part.uptime).leaveWaiting).driven s.slow.lit s.fast.lit
    admission.queue := []
    admission.passDue := false }

/-- The ride-through restart (R185). -/
def State.rideThrough (s : State) (cause : RestartCause) : State :=
  let s1 := ({ s with port := s.port.restarted } : State).rideThroughControls
  let s2 := allSlots.foldl State.rideThroughSlot s1
  let s3 := { s2 with budget.ceiling := s2.budget.computed }
  s3.restartEvents.restartCaused cause

/-- A rise of the debounced RESTART line (R183). The command is a rise, whatever the debounced value was: a fall has no
row and no effect (log 5). -/
def execRestartLineRise (s : State) : Result :=
  .next (({ s with part.restartLine := .take true } : State).rideThrough .restartLine).finish

/-! ### The full restart (R186) -/

/-- A line whose debounced value is made deasserted and whose count starts afresh from this tick (R109). -/
def BayLines.recountPresence (l : BayLines) : BayLines := { l with present := l.present.firstCount }

/-- A slot record after a full restart (R186). Hardware settings are kept while the frozen flag is set
(log 20). -/
def Slot.fullRestart (sl : Slot) (frozen : Bool) : Slot :=
  { Slot.reset with
    hardware := if frozen then sl.hardware else .reset
    lines := sl.lines.recountPresence }

/-- The budget unit after a full restart (R1, R186): GOOD and stamps kept, capacities kept while the frozen flag is
set, settings and class table at their defaults, nothing committed, the ceiling recomputed. -/
def Budget.fullRestart (b : Budget) (frozen : Bool) : Budget :=
  let supplies := b.supplies.map fun p => { p with capacity := if frozen then p.capacity else 0 }
  { Budget.reset with supplies := supplies, ceiling := ceilingFor supplies 0 .full }

/-- The admission unit after a full restart (R41, R186): defaults, the stamp counters kept. -/
def Admission.fullRestart (a : Admission) : Admission :=
  { Admission.reset with enqueueCounter := a.enqueueCounter, admissionCounter := a.admissionCounter }

/-- The full restart (R186). -/
def State.fullRestart (s : State) : State :=
  ({ s with
      port := s.port.restarted
      budget := s.budget.fullRestart s.part.frozen
      admission := s.admission.fullRestart
      profiles := State.reset.profiles
      slots := s.slots.map fun sl => sl.fullRestart s.part.frozen
      holdOffTime := State.reset.holdOffTime
      slow := .slowReset
      fast := .fastReset } : State).restartEvents.restartCaused .restartRequest

/-- The restart that a RESTART request asked for, once it is due (R184): ride-through with keep-power set, full
otherwise. -/
def State.requestedRestart (s : State) : State :=
  match s.part.restartAsk with
  | .due true => s.rideThrough .restartRequest
  | .due false => s.fullRestart
  | .none => s
  | .asked _ => s

def execRequestedRestart (s : State) : Result := s.happen s.part.restartAsk.isDue s.requestedRestart

end Sys2Proof.Machine
end

