-- ==== Sys2Proof/Machine/Dispatch.lean ====
section
/-! DEFINITION. The effect of each command on everything but the queue of commands: one arm for each row of the table,
in the table's order. -/
namespace Sys2Proof.Machine

def exec (i : Instr) (s : State) : Host.Outcome State Fault Refusal :=
  match i with
  | .identify tag payload => Sys2Proof.Machine.execIdentify tag payload s
  | .grant tag payload => Sys2Proof.Machine.execGrant tag payload s
  | .readLink tag payload => Sys2Proof.Machine.execReadLink tag payload s
  | .setNotices tag payload => Sys2Proof.Machine.execSetNotices tag payload s
  | .readSlot tag payload => Sys2Proof.Machine.execReadSlot tag payload s
  | .readQueue tag payload => Sys2Proof.Machine.execReadQueue tag payload s
  | .readBudget tag payload => Sys2Proof.Machine.execReadBudget tag payload s
  | .readEvents tag payload => Sys2Proof.Machine.execReadEvents tag payload s
  | .ackEvents tag payload => Sys2Proof.Machine.execAckEvents tag payload s
  | .readProfile tag payload => Sys2Proof.Machine.execReadProfile tag payload s
  | .powerOn tag payload => Sys2Proof.Machine.execPowerOn tag payload s
  | .powerOff tag payload => Sys2Proof.Machine.execPowerOff tag payload s
  | .clearFault tag payload => Sys2Proof.Machine.execClearFault tag payload s
  | .lock tag payload => Sys2Proof.Machine.execLock tag payload s
  | .unlock tag payload => Sys2Proof.Machine.execUnlock tag payload s
  | .setIndicator tag payload => Sys2Proof.Machine.execSetIndicator tag payload s
  | .setSlot tag payload => Sys2Proof.Machine.execSetSlot tag payload s
  | .setHardware tag payload => Sys2Proof.Machine.execSetHardware tag payload s
  | .setSupply tag payload => Sys2Proof.Machine.execSetSupply tag payload s
  | .setBudget tag payload => Sys2Proof.Machine.execSetBudget tag payload s
  | .setProfile tag payload => Sys2Proof.Machine.execSetProfile tag payload s
  | .setClasses tag payload => Sys2Proof.Machine.execSetClasses tag payload s
  | .setBlink tag payload => Sys2Proof.Machine.execSetBlink tag payload s
  | .gate tag payload => Sys2Proof.Machine.execGate tag payload s
  | .freeze tag payload => Sys2Proof.Machine.execFreeze tag payload s
  | .restart tag payload => Sys2Proof.Machine.execRestart tag payload s
  | .badKind tag kind payload => Sys2Proof.Machine.execBadKind tag kind payload s
  | .byteReceived b => Sys2Proof.Machine.execByteReceived b s
  | .characterWithoutStopBit => Sys2Proof.Machine.execCharacterWithoutStopBit s
  | .gapAbort => Sys2Proof.Machine.execGapAbort s
  | .linkReset => Sys2Proof.Machine.execLinkReset s
  | .frameEnd => Sys2Proof.Machine.execFrameEnd s
  | .supplyGoodChange n good => Sys2Proof.Machine.execSupplyGoodChange n good s
  | .admissionPass => Sys2Proof.Machine.execAdmissionPass s
  | .auxGoodRises slot => Sys2Proof.Machine.execAuxGoodRises slot s
  | .mainGoodRises slot => Sys2Proof.Machine.execMainGoodRises slot s
  | .settleTimeEnds slot => Sys2Proof.Machine.execSettleTimeEnds slot s
  | .readyRises slot => Sys2Proof.Machine.execReadyRises slot s
  | .stageDueEnd slot => Sys2Proof.Machine.execStageDueEnd slot s
  | .stageDeadlineExpiry slot => Sys2Proof.Machine.execStageDeadlineExpiry slot s
  | .readyFalls slot => Sys2Proof.Machine.execReadyFalls slot s
  | .drainGraceExpiry slot => Sys2Proof.Machine.execDrainGraceExpiry slot s
  | .drainDueEnd slot => Sys2Proof.Machine.execDrainDueEnd slot s
  | .faultLineRises slot => Sys2Proof.Machine.execFaultLineRises slot s
  | .overcurrentDue slot => Sys2Proof.Machine.execOvercurrentDue slot s
  | .railGoodFalls slot rail => Sys2Proof.Machine.execRailGoodFalls slot rail s
  | .railLostDue slot rail => Sys2Proof.Machine.execRailLostDue slot rail s
  | .insertion slot class0 class1 => Sys2Proof.Machine.execInsertion slot class0 class1 s
  | .removal slot => Sys2Proof.Machine.execRemoval slot s
  | .leverChange slot closed => Sys2Proof.Machine.execLeverChange slot closed s
  | .buttonPress slot => Sys2Proof.Machine.execButtonPress slot s
  | .holdOffExpiry slot => Sys2Proof.Machine.execHoldOffExpiry slot s
  | .lockSenseChange slot engaged => Sys2Proof.Machine.execLockSenseChange slot engaged s
  | .lockDeadlineExpiry slot => Sys2Proof.Machine.execLockDeadlineExpiry slot s
  | .lockDueEnd slot => Sys2Proof.Machine.execLockDueEnd slot s
  | .blinkPeriodBoundary p => Sys2Proof.Machine.execBlinkPeriodBoundary p s
  | .blinkOnTimeEnd p => Sys2Proof.Machine.execBlinkOnTimeEnd p s
  | .powerOnReset rateA rateB => Sys2Proof.Machine.execPowerOnReset rateA rateB s
  | .restartLineRise => Sys2Proof.Machine.execRestartLineRise s
  | .requestedRestart => Sys2Proof.Machine.execRequestedRestart s

end Sys2Proof.Machine
end

