-- ==== Sys2Proof/Machine/Time.lean ====
section
/-! DEFINITION. The 1 ms time base: what one tick counts (R2, R45, R51, R92, R109, R117, R124, R136, R158, R181, R183),
and the happenings that the part owes. A tick has no row of the table: it is what a step can do when no command waits and
no happening of the present tick is owed (log 1). A count that reaches its end makes its happening due, and the next tick
comes only after that happening has been taken. The execution of a request may wait over ticks (R162). -/
namespace Sys2Proof.Machine

/-! ### Pins -/

/-- A line whose pin takes a level. -/
def Line.drive (l : Line) (v : Bool) : Line := { l with level := v }

/-- The lines of a bay, their slot given, with one of their pins at a level; another slot's pin, or a pin of no slot,
changes nothing. -/
def BayLines.drivePin (i : SlotId) (p : Pin) (v : Bool) (l : BayLines) : BayLines :=
  match p with
  | .present j => if j = i then { l with present := l.present.drive v } else l
  | .class0 j => if j = i then { l with class0 := v } else l
  | .class1 j => if j = i then { l with class1 := v } else l
  | .lever j => if j = i then { l with lever := l.lever.drive v } else l
  | .button j => if j = i then { l with button := l.button.drive v } else l
  | .lockSense j => if j = i then { l with lockSense := l.lockSense.drive v } else l
  | .auxGood j => if j = i then { l with auxGood := l.auxGood.drive v } else l
  | .mainGood j => if j = i then { l with mainGood := l.mainGood.drive v } else l
  | .ready j => if j = i then { l with ready := l.ready.drive v } else l
  | .fault j => if j = i then { l with fault := l.fault.drive v } else l
  | .supplyGood _ => l
  | .restart => l
  | .rateA => l
  | .rateB => l

/-- The slot that a pin belongs to. -/
def Pin.slot : Pin → Option SlotId
  | .present i | .class0 i | .class1 i | .lever i | .button i | .lockSense i | .auxGood i | .mainGood i | .ready i
  | .fault i => some i
  | .supplyGood _ | .restart | .rateA | .rateB => none

/-- An input pin takes a level, which the next samples see. The straps are read at power-on alone (R156). -/
def State.drivePin (s : State) (p : Pin) (v : Bool) : State :=
  match p with
  | .supplyGood n =>
    let sup := s.budget.supplies.get n
    { s with budget.supplies := s.budget.supplies.set n.val { sup with line := sup.line.drive v } n.isLt }
  | .restart => { s with part.restartLine := s.part.restartLine.drive v }
  | .rateA => { s with part.rateA := v }
  | .rateB => { s with part.rateB := v }
  | .present i | .class0 i | .class1 i | .lever i | .button i | .lockSense i | .auxGood i | .mainGood i | .ready i
  | .fault i => s.updLines i (BayLines.drivePin i p v)

/-- The outside world's changes of the pins before this tick (log 9). -/
def State.driveWires (s : State) : State :=
  match s.wires with
  | [] => s
  | now :: later => now.foldl (fun s c => s.drivePin c.1 c.2) { s with wires := later }

/-! ### Filters and timers -/

/-- One sample of a line: a sample at the debounced level restarts the count (R2, R45, R109). -/
def Line.sample (l : Line) : Line := { l with count := if l.level = l.held then 0 else l.count + 1 }

/-- One sample of a line whose fall is no happening: a fall that has been seen on `n` consecutive ticks takes effect in
the filter alone (FAULT, BUTTON and RESTART: R95, R116, R183, log 5). -/
def Line.sampleQuiet (n : Nat) (l : Line) : Line :=
  let l1 := l.sample
  if l1.held = true ∧ n ≤ l1.count then { l1 with held := false, count := 0 } else l1

/-- The samples of one bay at a tick. -/
def BayLines.sample (l : BayLines) : BayLines :=
  { l with
    present := l.present.sample, lever := l.lever.sample, button := l.button.sampleQuiet 20
    lockSense := l.lockSense.sample, auxGood := l.auxGood.sample, mainGood := l.mainGood.sample
    ready := l.ready.sample, fault := l.fault.sampleQuiet 2 }

/-- A count of milliseconds that runs down to 0, where its expiry is due. -/
def countDown (t : Option Nat) : Option Nat := t.map fun n => n - 1

/-- One tick of a slot: its filters and its three timers. -/
def Slot.tick (sl : Slot) : Slot :=
  { sl with
    lines := sl.lines.sample, stageTimer := countDown sl.stageTimer, holdOff := countDown sl.holdOff
    lockTimer := countDown sl.lockTimer }

/-- One tick of a blink pattern (R136): the phase is raised by 1, unless the raise wraps or leaves the on-time, which is
a happening of its own (log 13). -/
def BlinkPattern.tick (b : BlinkPattern) : BlinkPattern :=
  if b.period ≤ b.phase + 1 ∨ b.phase + 1 = b.onTime then { b with crossing := true }
  else { b with phase := b.phase + 1, crossing := false }

/-- One tick of the gap count (R158). -/
def Port.tick (p : Port) : Port := if p.receiver.running then { p with gap := p.gap + 1 } else p

/-- One tick of the time base (R181). -/
def State.tick (s : State) : State :=
  let s1 := s.driveWires
  { s1 with
    part := { s1.part with uptime := s1.part.uptime + 1, restartLine := s1.part.restartLine.sampleQuiet 5 }
    budget := { s1.budget with supplies := s1.budget.supplies.map fun p => { p with line := p.line.sample } }
    slots := s1.slots.map Slot.tick
    slow := s1.slow.tick
    fast := s1.fast.tick
    port := s1.port.tick }

/-! ### The happenings that are due -/

/-- A list of one happening, if it is due. -/
def dueIf (c : Bool) (h : Instr) : List Instr := if c then [h] else []

/-- A change of a line is due: it has been sampled at the opposite level on `n` consecutive ticks. -/
def Line.dueAfter (n : Nat) (l : Line) : Bool := decide (l.level ≠ l.held) && decide (n ≤ l.count)

/-- A rise of a line is due. -/
def Line.riseDue (n : Nat) (l : Line) : Bool := l.dueAfter n && !l.held

/-- A fall of a line is due. -/
def Line.fallDue (n : Nat) (l : Line) : Bool := l.dueAfter n && l.held

/-- The line changes that are due in a slot (R45, R92, R109). -/
def Slot.dueLines (i : SlotId) (sl : Slot) : List Instr :=
  let l := sl.lines
  dueIf (l.present.riseDue 50) (.insertion i l.class0 l.class1) ++
  dueIf (l.present.fallDue 50) (.removal i) ++
  dueIf (l.lever.dueAfter 20) (.leverChange i l.lever.level) ++
  dueIf (l.button.riseDue 20) (.buttonPress i) ++
  dueIf (l.lockSense.dueAfter 20) (.lockSenseChange i l.lockSense.level) ++
  dueIf (l.auxGood.riseDue 2) (.auxGoodRises i) ++
  dueIf (l.auxGood.fallDue 2) (.railGoodFalls i .aux) ++
  dueIf (l.mainGood.riseDue 2) (.mainGoodRises i) ++
  dueIf (l.mainGood.fallDue 2) (.railGoodFalls i .main) ++
  dueIf (l.ready.riseDue 10) (.readyRises i) ++
  dueIf (l.ready.fallDue 10) (.readyFalls i) ++
  dueIf (l.fault.riseDue 2) (.faultLineRises i)

/-- The expiries and the ends due at once in a slot (R51, R70, R94, R95, R118, R126). -/
def Slot.dueEnds (i : SlotId) (sl : Slot) : List Instr :=
  dueIf (decide (sl.power = .settle ∧ sl.stageTimer = some 0)) (.settleTimeEnds i) ++
  dueIf (decide (sl.stageTimer = some 0) && sl.power.timeoutFault.isSome) (.stageDeadlineExpiry i) ++
  dueIf (decide (sl.power = .drain ∧ sl.stageTimer = some 0)) (.drainGraceExpiry i) ++
  dueIf (sl.endDue && sl.power.ramping) (.stageDueEnd i) ++
  dueIf (sl.endDue && decide (sl.power = .drain)) (.drainDueEnd i) ++
  dueIf sl.overcurrentDue (.overcurrentDue i) ++
  dueIf sl.auxLostDue (.railLostDue i .aux) ++
  dueIf sl.mainLostDue (.railLostDue i .main) ++
  dueIf (decide (sl.holdOff = some 0)) (.holdOffExpiry i) ++
  dueIf (decide (sl.lockTimer = some 0) && sl.lockOp.isSome) (.lockDeadlineExpiry i) ++
  dueIf sl.lockEndDue.isSome (.lockDueEnd i)

/-- The happenings due in one slot. -/
def State.dueOfSlot (s : State) (i : SlotId) : List Instr := (s.slot i).dueLines i ++ (s.slot i).dueEnds i

/-- The change of a supply's GOOD, if it is due (R2). -/
def State.dueOfSupply (s : State) (n : SupplyId) : List Instr :=
  let l := (s.budget.supplies.get n).line
  dueIf (l.dueAfter 10) (.supplyGoodChange n l.level)

/-- The happenings due in a blink pattern (R132, R138). -/
def State.dueOfPattern (s : State) (p : Pattern) : List Instr :=
  dueIf (s.pattern p).atBoundary (.blinkPeriodBoundary p) ++ dueIf (s.pattern p).atOnTimeEnd (.blinkOnTimeEnd p)

/-- The execution of a request, if one is due (R162). -/
def State.dueRequest (s : State) : List Instr :=
  match s.port.nextRequest with
  | none => []
  | some r => dueIf (decide (s.part.restartAsk = .none)) (requestCommand r.tag r.kind r.payload)

/-- The happenings that the part owes before the next tick: they fall at the present tick (R2, R36, R51, R70, R94, R95,
R118, R126, R132, R138, R158, R162, R183, R184). -/
def State.dueNow (s : State) : List Instr :=
  dueIf s.part.restartAsk.isDue .requestedRestart ++
  dueIf (s.part.restartLine.riseDue 5) .restartLineRise ++
  (List.finRange 4).flatMap s.dueOfSupply ++
  allSlots.flatMap s.dueOfSlot ++
  dueIf s.port.gapDue .gapAbort ++
  s.dueOfPattern .slow ++ s.dueOfPattern .fast ++
  dueIf s.admission.passDue .admissionPass

/-- Every happening that the part owes: those of the present tick, and the execution of a request, which binds itself to
no tick (R162). -/
def State.dueHappenings (s : State) : List Instr := s.dueNow ++ s.dueRequest

/-- What the part can do next of its own: a happening that is due, or, where only the execution of a request is owed or
nothing at all, a tick, given as none (R162, log 2). -/
def State.moves (s : State) : List (Option Instr) :=
  s.dueHappenings.map some ++ if s.dueNow.isEmpty then [none] else []

/-- What the part does next of its own, with the state it acts on: of several moves, the one that the free value names,
and the choice is counted (log 2). -/
def State.choose (s : State) : Option Instr × State :=
  match s.moves with
  | [] => (none, s)
  | [m] => (m, s)
  | m :: m' :: rest =>
    ((m :: m' :: rest).getD (Config.choice s.choices % (rest.length + 2)) m, { s with choices := s.choices + 1 })

end Sys2Proof.Machine
end

