-- ==== Sys2Proof/Machine/Step.lean ====
section
/-! DEFINITION. One step of the block: the command at the front of the queue; with no command waiting, a happening that
the part owes, or one tick of the time base where none of the present tick is owed (log 1, log 2). -/
namespace Sys2Proof.Machine

/-- What the block does of its own when no command waits: the move that `State.choose` gives, a happening or a tick. -/
def idle (s : State) : Host.Outcome State Fault Refusal :=
  match s.choose with
  | (some c, s1) => exec c s1
  | (none, s1) => .next s1.tick

/-- One step: the command at the front of the queue is taken, and acts on the state with the queue's rest. -/
def step (s : State) : Host.Outcome State Fault Refusal :=
  match s.pending with
  | c :: rest => exec c { s with pending := rest }
  | [] => idle s

/-- The command that a word of the table's bits spells, put at the front of the queue. No row of the table gives bits,
so the state is left as it is (log 3). -/
def State.withFetchWord (s : State) (nbits w : Nat) : State :=
  match decodeTableWord nbits w with
  | some c => { s with pending := c :: s.pending }
  | none => s

end Sys2Proof.Machine
end

