-- ==== Sys2Proof/Safety.lean ====
section
/-! DEFINITION. What counts as a safe state, in the terms the claims use: the laws that the manual states for every
moment ("at the end of every happening"), as predicates of a state, and the relations between the states before and
after a command that say what it leaves alone. -/
namespace Sys2Proof.Machine

/-! ### Laws of every moment -/

/-- Every output of a slot shows what its record and the blink patterns call for (R44, R123, R132 to R134). -/
abbrev State.OutputsFollow (s : State) : Prop :=
  ∀ i, (s.slot i).out = (s.slot i).outputs s.slow.lit s.fast.lit

/-- The amount a slot has committed, 0 without a commitment (R11). -/
def Slot.amount (sl : Slot) : Nat :=
  match sl.commitment with
  | some c => c.amount
  | none => 0

/-- The state shows that a module of an enabled slot is in service: IDLE to DRAIN. -/
def PowerState.inService : PowerState → Bool
  | .vacant | .faulted => false
  | .idle | .waiting | .auxRamp | .mainRamp | .settle | .readyWait | .on | .drain => true

/-- The operation in flight that a slot state allows: a POWER_ON from WAITING to READY_WAIT, a POWER_OFF in DRAIN, none
in ON, and at most a lock operation in VACANT, IDLE and FAULTED (R46). -/
def PowerState.allows : PowerState → Option OpKind → Bool
  | .waiting, some .powerOn | .auxRamp, some .powerOn | .mainRamp, some .powerOn | .settle, some .powerOn
  | .readyWait, some .powerOn | .drain, some .powerOff | .on, none => true
  | .vacant, k | .idle, k => k = none ∨ k = some .lock ∨ k = some .unlock
  | .faulted, k => k = none ∨ k = some .unlock
  | _, _ => false

/-- The laws of one slot record: its commitment and inrush position (R11, R30), its operation (R46), its module (R110,
R114), its hold-off window (R117), its timers and stage-end mark (R43, R51) and its last fault (R91). That a slot without
power holds no OVERCURRENT or RAIL_LOST due mark is the model's choice (log 12). -/
abbrev Slot.Lawful (sl : Slot) : Prop :=
  sl.commitment.isSome = sl.power.powered ∧
  (∀ c ∈ sl.commitment, c.inrush = sl.power.inrush) ∧
  sl.power.allows (sl.operation.map (·.kind)) = true ∧
  sl.moduleClass.isSome = (sl.hardware.enabled && sl.lines.present.held) ∧
  (sl.power.inService = true → sl.hardware.enabled = true ∧ sl.lines.present.held = true) ∧
  (sl.power = .vacant → sl.hardware.enabled = false ∨ sl.lines.present.held = false) ∧
  (sl.power = .faulted → sl.hardware.enabled = true ∧ sl.lastFault.isSome = true) ∧
  (sl.holdOff.isSome = true → sl.power.inService = true ∧ sl.buttonPolicy = .toggle) ∧
  (sl.power.powered = false ∨ sl.power = .on → sl.stageTimer = none ∧ sl.endDue = false) ∧
  (sl.power.powered = false → sl.overcurrentDue = false ∧ sl.auxLostDue = false ∧ sl.mainLostDue = false) ∧
  (sl.lockTimer.isSome = sl.lockOp.isSome)

/-- The accounts of the part (R4 to R6, R11, R12, R30): the committed total is the sum of the commitments and is not
above the ceiling, which is the one the supplies and settings give; the positions held are those of the slots that
ramp, at most K. -/
abbrev State.Accounts (s : State) : Prop :=
  s.budget.committed = (allSlots.map fun i => (s.slot i).amount).sum ∧
  s.budget.committed ≤ s.budget.ceiling ∧
  s.budget.ceiling = s.budget.computed ∧
  s.admission.inrushHeld = allSlots.countP (fun i => (s.slot i).power.inrush) ∧
  s.admission.inrushHeld ≤ s.admission.positions ∧
  1 ≤ s.admission.positions ∧ s.admission.positions ≤ 4

/-- An entry may stand ahead of another: priority descending, then enqueue stamp ascending (R26). -/
def QueueEntry.ahead (a b : QueueEntry) : Bool :=
  decide (b.priority < a.priority) || (decide (a.priority = b.priority) && decide (a.stamp ≤ b.stamp))

/-- The laws of the admission queue (R25, R26): it holds each WAITING slot once and no other, with the priority of the
slot and the ticket and origin of its operation, in queue order, its stamps drawn from the counter. -/
abbrev State.QueueLawful (s : State) : Prop :=
  (s.admission.queue.map (·.slot)).Nodup ∧
  (∀ i, (s.slot i).power = .waiting ↔ ∃ e ∈ s.admission.queue, e.slot = i) ∧
  (∀ e ∈ s.admission.queue, e.priority = (s.slot e.slot).priority ∧
    (s.slot e.slot).operation.map (fun o => (o.ticket, o.origin)) = some (e.ticket, e.origin)) ∧
  s.admission.queue.Pairwise (fun a b => a.ahead b = true) ∧
  (∀ e ∈ s.admission.queue, 1 ≤ e.stamp ∧ e.stamp ≤ s.admission.enqueueCounter ∧ e.bypass ≤ 15) ∧
  s.admission.enqueueCounter ≤ stampTop

/-- The slots, the accounts and the queue, which hold together. -/
abbrev State.PowerLawful (s : State) : Prop :=
  (∀ i, (s.slot i).Lawful) ∧ s.Accounts ∧ s.QueueLawful

/-- The tag of a reply that waits for the line. -/
def Ready.replyTag : Ready → Option Byte
  | .reply tag => some tag
  | .reject _ _ => none

/-- What the receiver has taken agrees with LEN (R157). -/
def Receiver.lawful : Receiver → Bool
  | .hunt | .headerLen => true
  | .headerTag len => decide (len.toNat ≤ 120)
  | .headerKind len _ => decide (len.toNat ≤ 120)
  | .body len _ _ taken due => decide (len.toNat ≤ 120) && decide (taken.length + due = len.toNat) && decide (1 ≤ due)
  | .checkHigh len _ _ payload => decide (len.toNat ≤ 120) && decide (payload.length = len.toNat)
  | .checkLow len _ _ payload _ => decide (len.toNat ≤ 120) && decide (payload.length = len.toNat)

/-- The laws of the message port: the request queue with at most 8 requests, their tags not 0 and pairwise different,
the executed ones ahead of the others; the reply list holding exactly the executed requests, in their order (R161); at
most two reject places held (R160); the credit within 0 to 64 (R151); payloads within 120 bytes (R156); all of it empty
while LINK_RX stays at the space of a link reset (R164); and the OK reply of a RESTART held or being sent only while the
restart it asked for has not been taken (R162, R175). -/
abbrev State.PortLawful (s : State) : Prop :=
  s.port.requests.length ≤ 8 ∧
  (s.port.requests.map (·.tag)).Nodup ∧
  (∀ r ∈ s.port.requests, r.tag ≠ 0 ∧ r.payload.length ≤ 120) ∧
  s.port.requests.Pairwise (fun a b => b.reply.isSome = true → a.reply.isSome = true) ∧
  s.port.ready.filterMap Ready.replyTag = (s.port.requests.filter (·.reply.isSome)).map (·.tag) ∧
  s.port.rejectsHeld ≤ 2 ∧
  s.port.credit ≤ 64 ∧
  s.port.receiver.lawful = true ∧
  (s.port.rxHeld = true → s.port.ready = [] ∧ s.port.requests = [] ∧ s.port.sending = none ∧ s.port.credit = 0) ∧
  s.port.offerDue = false ∧
  (∀ f ∈ s.port.sending, f.isRestartReply = true → s.part.restartAsk ≠ .none) ∧
  (∀ r ∈ s.port.requests, r.kind = 0x7F → r.reply = some [0x00] → s.part.restartAsk ≠ .none)

/-- The line is never left idle while something waits for it (R163): with no frame being sent, no link reset held and no
requested restart due, no reply or reject waits, and no notice waits that the credit allows. -/
abbrev State.LineBusy (s : State) : Prop :=
  s.lineIdle = true →
    s.port.ready = [] ∧
    (s.port.credit = 0 ∨ (s.events.notices = [] ∧ (s.events.overflow = true → s.events.announced = true)))

/-- The laws of the event unit: ALERT exactly when some pending set holds a kind in the alert mask (R150); at most 32
notices, at most one for a slot and kind, each for a kind that is still pending (R143); and no overflow fields outside
an overflow episode (R145). -/
abbrev State.EventsLawful (s : State) : Prop :=
  s.events.alert = s.alerting ∧
  s.events.notices.length ≤ 32 ∧
  s.events.notices.Pairwise (fun a b => ¬(a.subject = b.subject ∧ a.kind = b.kind)) ∧
  (∀ n ∈ s.events.notices, hasKind (s.pendingOf n.subject) n.kind = true ∧ 1 ≤ n.count ∧ n.count ≤ 255) ∧
  (s.events.overflow = true ↔ s.events.lostCount ≠ 0) ∧
  (s.events.overflow = true ↔ s.events.overflowStamp.isSome = true) ∧
  (s.events.announced = true → s.events.overflow = true) ∧
  s.events.lostCount ≤ 255

/-- A period and an on-time within the ranges of a blink pattern (R136). -/
abbrev blinkRange (period onTime : Nat) : Prop := 100 ≤ period ∧ period ≤ 4000 ∧ onTime ≤ period

/-- The laws of a blink pattern (R136): its fields within their ranges, the phase within the period. -/
abbrev BlinkPattern.Lawful (b : BlinkPattern) : Prop :=
  blinkRange b.period b.onTime ∧ b.phase < b.period ∧ ∀ v ∈ b.waiting, blinkRange v.1 v.2

/-- The ranges of a profile (R50). -/
abbrev Profile.InRange (p : Profile) : Prop :=
  p.auxCode ≤ 14 ∧ p.mainCode ≤ 14 ∧ p.settleMs ≤ 2000 ∧ p.readyCode ≤ 15 ∧ p.graceCode ≤ 15

/-- The ranges of a slot record (R9, R11, R43, R79, R91, R117, R124), with its tickets (R46, R49, R91): 1 to 65535 in
flight, and 0 too where a ticket is recorded. -/
abbrev Slot.InRange (sl : Slot) : Prop :=
  sl.priority ≤ 7 ∧ sl.faultCount ≤ 255 ∧ (∀ d ∈ sl.overrideDraw, d ≤ 20000) ∧
  (∀ c ∈ sl.commitment, c.amount ≤ 20000 ∧ c.stamp ≤ stampTop) ∧ (∀ t ∈ sl.stageTimer, t ≤ 60000) ∧
  (∀ t ∈ sl.holdOff, t ≤ 15000) ∧ (∀ t ∈ sl.lockTimer, t ≤ 500) ∧
  (∀ o ∈ sl.operation, 1 ≤ o.ticket ∧ o.ticket ≤ 65535) ∧ (∀ o ∈ sl.lastOutcome, o.ticket ≤ 65535) ∧
  (∀ f ∈ sl.lastFault, f.ticket ≤ 65535) ∧ (∀ t ∈ sl.lockEndDue, 1 ≤ t ∧ t ≤ 65535)

/-- The ranges of a queue entry (R25, R26). -/
abbrev QueueEntry.InRange (e : QueueEntry) : Prop :=
  e.priority ≤ 7 ∧ 1 ≤ e.stamp ∧ e.stamp ≤ stampTop ∧ 1 ≤ e.ticket ∧ e.ticket ≤ 65535 ∧ e.bypass ≤ 15

/-- The quantities of the blocks lie in the ranges where the manual defines them: supplies, budget settings, class draws
and ceiling (R1, R3, R4, R8), admission settings, counters and queue entries (R25, R26, R34, R39), profiles (R50),
hold-off time (R117), ticket counter (R47), link rate, gap count and link counters (R156, R158, R166), and the slot
records. The blink patterns, the credit and the notices have their ranges in the laws of their units. -/
abbrev State.InRange (s : State) : Prop :=
  (∀ n, (s.budget.supplies.get n).capacity ≤ 30000) ∧ s.budget.reserve ≤ 120000 ∧ s.budget.ceiling ≤ 120000 ∧
  (∀ c, s.budget.classDraws.get c ≤ 20000) ∧
  s.admission.bypassLimit ≤ 15 ∧ s.admission.enqueueCounter ≤ stampTop ∧ s.admission.admissionCounter ≤ stampTop ∧
  (∀ e ∈ s.admission.queue, e.InRange) ∧
  (∀ p, (s.profiles.get p).InRange) ∧ 1 ≤ s.holdOffTime ∧ s.holdOffTime ≤ 15 ∧
  1 ≤ s.part.ticketCounter ∧ s.part.ticketCounter ≤ 65535 ∧ s.port.linkRate ≤ 3 ∧ s.port.gap ≤ 11 ∧
  s.port.framesAccepted ≤ 65535 ∧ s.port.checkFailures ≤ 65535 ∧ s.port.gapAborts ≤ 65535 ∧
  s.port.lengthErrors ≤ 65535 ∧ s.port.droppedRejects ≤ 65535 ∧
  ∀ i, (s.slot i).InRange

/-! ### What the part owes -/

/-- A line is due to turn to a level: it has been sampled there, against its debounced value, on `n` consecutive ticks
(R2, R45, R92, R109, R183). -/
abbrev Line.Turns (l : Line) (v : Bool) (n : Nat) : Prop := l.held ≠ v ∧ l.level = v ∧ n ≤ l.count

/-- The good line of a rail (R94). -/
def BayLines.goodOf (l : BayLines) : Rail → Line
  | .aux => l.auxGood
  | .main => l.mainGood

/-- The command is a happening that the part owes: a line's change after its samples, an expiry at the end of its count,
an end or a fault that a rule has made due, an admission pass while the mark is set (R36), a blink pattern's crossing, a
gap abort, a restart, or the execution of the oldest request without a reply while no RESTART has been executed (R162).
What only the outside world can bring about is never owed. -/
def State.Due (s : State) (c : Instr) : Prop :=
  match c with
  | .supplyGoodChange n good => (s.budget.supplies.get n).line.Turns good 10
  | .admissionPass => s.admission.passDue = true
  | .auxGoodRises i => (s.slot i).lines.auxGood.Turns true 2
  | .mainGoodRises i => (s.slot i).lines.mainGood.Turns true 2
  | .settleTimeEnds i => (s.slot i).power = .settle ∧ (s.slot i).stageTimer = some 0
  | .readyRises i => (s.slot i).lines.ready.Turns true 10
  | .stageDueEnd i => (s.slot i).power ∈ [.auxRamp, .mainRamp, .settle, .readyWait] ∧ (s.slot i).endDue = true
  | .stageDeadlineExpiry i => (s.slot i).power ∈ [.auxRamp, .mainRamp, .readyWait] ∧ (s.slot i).stageTimer = some 0
  | .readyFalls i => (s.slot i).lines.ready.Turns false 10
  | .drainGraceExpiry i => (s.slot i).power = .drain ∧ (s.slot i).stageTimer = some 0
  | .drainDueEnd i => (s.slot i).power = .drain ∧ (s.slot i).endDue = true
  | .faultLineRises i => (s.slot i).lines.fault.Turns true 2
  | .overcurrentDue i => (s.slot i).overcurrentDue = true
  | .railGoodFalls i rail => ((s.slot i).lines.goodOf rail).Turns false 2
  | .railLostDue i .aux => (s.slot i).auxLostDue = true
  | .railLostDue i .main => (s.slot i).mainLostDue = true
  | .insertion i class0 class1 =>
    (s.slot i).lines.present.Turns true 50 ∧ (s.slot i).lines.class0 = class0 ∧ (s.slot i).lines.class1 = class1
  | .removal i => (s.slot i).lines.present.Turns false 50
  | .leverChange i closed => (s.slot i).lines.lever.Turns closed 20
  | .buttonPress i => (s.slot i).lines.button.Turns true 20
  | .holdOffExpiry i => (s.slot i).holdOff = some 0
  | .lockSenseChange i engaged => (s.slot i).lines.lockSense.Turns engaged 20
  | .lockDeadlineExpiry i =>
    (s.slot i).lockTimer = some 0 ∧ ∃ o ∈ (s.slot i).operation, o.kind = .lock ∨ o.kind = .unlock
  | .lockDueEnd i => (s.slot i).lockEndDue.isSome = true
  | .blinkPeriodBoundary p => (s.pattern p).crossing = true ∧ (s.pattern p).period ≤ (s.pattern p).phase + 1
  | .blinkOnTimeEnd p =>
    (s.pattern p).crossing = true ∧ (s.pattern p).phase + 1 < (s.pattern p).period ∧
      (s.pattern p).phase + 1 = (s.pattern p).onTime
  | .gapAbort => s.port.receiver ≠ .hunt ∧ 11 ≤ s.port.gap
  | .restartLineRise => s.part.restartLine.Turns true 5
  | .requestedRestart => s.part.restartAsk = .due true ∨ s.part.restartAsk = .due false
  | .byteReceived _ | .characterWithoutStopBit | .linkReset | .frameEnd | .powerOnReset _ _ => False
  | .identify _ _ | .grant _ _ | .readLink _ _ | .setNotices _ _ | .readSlot _ _ | .readQueue _ _ | .readBudget _ _
  | .readEvents _ _ | .ackEvents _ _ | .readProfile _ _ | .powerOn _ _ | .powerOff _ _ | .clearFault _ _ | .lock _ _
  | .unlock _ _ | .setIndicator _ _ | .setSlot _ _ | .setHardware _ _ | .setSupply _ _ | .setBudget _ _
  | .setProfile _ _ | .setClasses _ _ | .setBlink _ _ | .gate _ _ | .freeze _ _ | .restart _ _ | .badKind _ _ _ =>
    s.part.restartAsk = .none ∧ (c.isBadKind = true → ∀ k ∈ requestCodes, c.request.map (·.2.1) ≠ some k) ∧
      (s.port.requests.find? fun r => r.reply.isNone).map (fun r => (r.tag, r.kind, r.payload)) = c.request

/-- The level at an input pin ("Pins"). -/
def State.levelAt (s : State) : Pin → Bool
  | .supplyGood n => (s.budget.supplies.get n).line.level
  | .restart => s.part.restartLine.level
  | .rateA => s.part.rateA
  | .rateB => s.part.rateB
  | .present i => (s.slot i).lines.present.level
  | .class0 i => (s.slot i).lines.class0
  | .class1 i => (s.slot i).lines.class1
  | .lever i => (s.slot i).lines.lever.level
  | .button i => (s.slot i).lines.button.level
  | .lockSense i => (s.slot i).lines.lockSense.level
  | .auxGood i => (s.slot i).lines.auxGood.level
  | .mainGood i => (s.slot i).lines.mainGood.level
  | .ready i => (s.slot i).lines.ready.level
  | .fault i => (s.slot i).lines.fault.level

/-! ### What a command does, and what it leaves alone -/

/-- The byte that names a slot in a frame: 1 to 24. -/
def slotByte (i : SlotId) : Byte := BitVec.ofNat 8 (slotNumber i)

/-- The byte of a two-valued field: 1 for yes or set, 0 for no or clear (R169). -/
def flagByte (b : Bool) : Byte := if b then 1 else 0

/-- The bytes `bs` stand in the payload `l` from position `n` on. -/
def bytesAt (l : List Byte) (n : Nat) (bs : List Byte) : Prop := (l.drop n).take bs.length = bs

/-- The port owes the execution of this request now (R162): it is the oldest request without a reply, no RESTART has
been executed, and the tags of the queue are pairwise different (R161). -/
abbrev State.Owes (s : State) (kind tag : Byte) (payload : List Byte) : Prop :=
  s.requestDue tag kind payload = true ∧ (s.port.requests.map (·.tag)).Nodup

/-- The reply of a request is ready: its bytes wait in the request's entry, the tag in the reply list, or its frame is
being sent (R162, R163). -/
def Port.Holds (p : Port) (kind tag : Byte) (reply : List Byte) : Prop :=
  p.sending = some (.reply kind tag reply) ∨
  (Ready.reply tag ∈ p.ready ∧ ∃ r ∈ p.requests, r.tag = tag ∧ r.kind = kind ∧ r.reply = some reply)

/-- The port with a reply stored in the entry of its request, and the reply behind every frame that waits: the other
requests and the waiting frames keep their order (R162). -/
def Port.withReply (p : Port) (tag : Byte) (reply : List Byte) : Port :=
  { p with
    requests := p.requests.map fun r => if r.tag = tag then { r with reply := some reply } else r
    ready := p.ready ++ [.reply tag] }

/-- The port after the frame that waits first has started: a reply takes its request out of the request queue, a reject
frees its place (R163). -/
def Port.startsFirst (p : Port) : Port :=
  match p.ready with
  | [] => p
  | .reject status tag :: rest => { p with ready := rest, sending := some (.reject status tag) }
  | .reply tag :: rest =>
    match p.requests.find? (fun r => decide (r.tag = tag)) with
    | some ⟨_, kind, _, some bytes⟩ =>
      { p with
        ready := rest, requests := p.requests.filter fun r => decide (r.tag ≠ tag)
        sending := some (.reply kind tag bytes) }
    | some ⟨_, _, _, none⟩ => { p with ready := rest }
    | none => { p with ready := rest }

/-- From the state `u` to the state `t` a reply has been made ready and the line been offered, and nothing else
happened: every other block is as in `u`; the reply stands in its request's entry and behind every frame that waits; and
on an idle line the frame that waits first has started (R162, R163). The offer is made at the end of the happening
(log 10), and a line whose LINK_RX is still at the space of a link reset counts as not idle (log 21). -/
def State.Answered (u t : State) (kind tag : Byte) (reply : List Byte) : Prop :=
  let p := { u.port.withReply tag reply with offerDue := false }
  { t with port := u.port } = u ∧
  t.port.Holds kind tag reply ∧
  t.port = if p.sending = none ∧ p.rxHeld = false then p.startsFirst else p

/-- An occurrence: whose pending set receives the kind, and the kind (R141). -/
abbrev Occurrence := Option SlotId × EventKind

/-- The event unit after one occurrence, ALERT apart (R141, R144, R145). -/
def Events.taking (e : Events) (now : Word32) (o : Occurrence) : Events :=
  { (if hasKind e.noticeMask o.2 then e.post o.1 o.2 now else e) with
    pendingZero := if o.1 = none then e.pendingZero ||| o.2.bit else e.pendingZero }

/-- The kinds that occurrences put in one pending set. -/
def kindsFor (who : Option SlotId) : List Occurrence → Word16
  | [] => 0
  | o :: rest => if o.1 = who then o.2.bit ||| kindsFor who rest else kindsFor who rest

/-- The state after these occurrences in this order (R141), the pending sets of slots 1 to 24 apart: the event unit has
taken them, ALERT is recomputed (R150), and an offer is due if the notice mask holds one of their kinds (R163). -/
def State.posting (b : State) (os : List Occurrence) : State :=
  let u : State :=
    { b with
      events := os.foldl (fun e o => e.taking b.part.uptime o) b.events
      port.offerDue := b.port.offerDue || os.any fun o => hasKind b.events.noticeMask o.2 }
  { u with events.alert := if os.isEmpty then b.events.alert else u.alerting }

/-- The state in which one slot has taken the record `sl`, its outputs following it (R44, R132), and these occurrences
have been made, the kinds of the slot entering its pending set. Every other slot and every other block is as in
`b`. -/
def State.becomes (b : State) (i : SlotId) (sl : Slot) (os : List Occurrence) : State :=
  let record : Slot := { sl with pendingSet := sl.pendingSet ||| kindsFor (some i) os }
  ({ b with slots := b.slots.set i.val (record.driven b.slow.lit b.fast.lit) i.isLt } : State).posting os

/-- The state in which one slot has taken the record `sl` with an empty pending set, its notices withdrawn and ALERT
recomputed (R142). -/
def State.emptiedAt (b : State) (i : SlotId) (sl : Slot) : State :=
  ({ b with
      slots := b.slots.set i.val (({ sl with pendingSet := 0 } : Slot).driven b.slow.lit b.fast.lit) i.isLt
      events.notices := b.events.notices.filter fun n => decide (n.subject ≠ some i) } : State).realert

/-- The class that two CLASS lines show (R110). -/
def classOf (class0 class1 : Bool) : Fin 4 :=
  if class1 then (if class0 then 3 else 2) else if class0 then 1 else 0

/-- A slot record without power in the state `st`: no commitment, no count, no due mark (R62). -/
def Slot.off (sl : Slot) (st : PowerState) : Slot :=
  { sl with
    power := st, commitment := none, stageTimer := none, endDue := false, overcurrentDue := false
    auxLostDue := false, mainLostDue := false }

/-- A slot record whose operation in flight, if any, has ended (R48). -/
def Slot.ended (sl : Slot) (outcome : OutcomeKind) (now : Word32) : Slot :=
  match sl.operation with
  | none => sl
  | some o => { sl with operation := none, lastOutcome := some ⟨o.kind, o.ticket, o.origin, outcome, none, now⟩ }

/-- The OP_DONE that the end of the operation in flight posts, if one is in flight (R48). -/
def Slot.endPosts (sl : Slot) (i : SlotId) : List Occurrence :=
  if sl.operation.isSome then [(some i, .opDone)] else []

/-- A slot record after a fault of a kind (R99). -/
def Slot.faulted (sl : Slot) (kind : FaultKind) (now : Word32) : Slot :=
  { ((sl.off .faulted).ended .fault now) with
    lastFault := some ⟨kind, sl.power, (sl.operation.map (·.ticket)).getD 0, now⟩
    faultCount := min 255 (sl.faultCount + 1)
    holdOff := none }

/-- The state with a slot's commitment released, the slot's own record apart (R13, R35). -/
def State.afterRelease (s : State) (i : SlotId) : State :=
  match (s.slot i).commitment with
  | none => s
  | some c =>
    { s with
      budget.committed := s.budget.committed - c.amount
      admission.inrushHeld := s.admission.inrushHeld - (if c.inrush then 1 else 0)
      admission.passDue := true }

/-- The next ticket after this one (R47). -/
def ticketAfter (t : Nat) : Nat := if t < 65535 then t + 1 else 1

/-- A slot record that has joined the admission queue (R23, R121). -/
def Slot.joined (sl : Slot) (origin : Origin) (ticket : Nat) (now : Word32) : Slot :=
  { sl with power := .waiting, autoPending := false, operation := some ⟨.powerOn, ticket, origin, now⟩ }

/-- A queue with an entry placed behind every entry of its own or a higher priority (R26). -/
def queueWith (entry : QueueEntry) (q : List QueueEntry) : List QueueEntry :=
  q.takeWhile (fun e => decide (entry.priority ≤ e.priority)) ++
    entry :: q.dropWhile (fun e => decide (entry.priority ≤ e.priority))

/-- The state after a slot has joined the admission queue, the slot's own record apart (R23, R26): the entry stands
behind every entry of its own or a higher priority. -/
def State.afterJoin (s : State) (i : SlotId) (origin : Origin) (mark : Bool) : State :=
  let stamp := min 4294967295 (s.admission.enqueueCounter + 1)
  let entry : QueueEntry := ⟨i, (s.slot i).priority, stamp, origin, s.part.ticketCounter, 0, mark⟩
  { s with
    part.ticketCounter := ticketAfter s.part.ticketCounter
    admission.enqueueCounter := stamp
    admission.queue := queueWith entry s.admission.queue
    admission.passDue := true }

/-- The slot passes every check of a power-on (R21). -/
abbrev Slot.mayPowerOn (sl : Slot) : Prop :=
  sl.hardware.enabled = true ∧ sl.power ≠ .faulted ∧ sl.lines.present.held = true ∧ sl.lines.lever.held = true ∧
  (sl.hardware.lockFitted = true → sl.lines.lockSense.held = true) ∧
  ∀ o ∈ sl.operation, o.kind ≠ .lock ∧ o.kind ≠ .unlock

/-- A power-on is asked for by auto-start at the end of a happening that leaves this record, and passes every check
(R122). -/
abbrev Slot.autoStarts (sl : Slot) : Prop :=
  sl.power = .idle ∧ sl.autoStart = true ∧ sl.autoPending = true ∧ sl.mayPowerOn

/-- The state in which one slot has taken the record `sl`, these occurrences have been made, and the auto-start attempt
has been made (R122). -/
def State.becomesOrStarts (b : State) (i : SlotId) (sl : Slot) (os : List Occurrence) : State :=
  if sl.autoStarts then
    (b.afterJoin i .auto false).becomes i (sl.joined .auto b.part.ticketCounter b.part.uptime) os
  else b.becomes i sl os

/-- The record of a slot whose settle time ends (R14, R58), with the profile that its index selects. -/
def Slot.settled (sl : Slot) (p : Profile) (now : Word32) : Slot :=
  let freed : Slot := { sl with commitment := sl.commitment.map fun c => { c with inrush := false } }
  if p.readyRequired then
    { freed with
      power := .readyWait, stageTimer := timeoutMs p.readyCode, readyRequired := true, endDue := sl.lines.ready.held }
  else
    ({ freed with power := .on, stageTimer := none, readyRequired := false, endDue := false } : Slot).ended .done now

/-- The bytes of several characters are received one after another (R156, R157). -/
def State.receiveAll (s : State) : List Byte → State
  | [] => s
  | b :: rest =>
    match exec (.byteReceived b) s with
    | .next t => t.receiveAll rest
    | .fault _ => s
    | .refused _ => s

/-- The length of payload that a request must have (R170). -/
def payloadLength : Instr → Option Nat
  | .identify _ _ | .readQueue _ _ | .readBudget _ _ | .freeze _ _ => some 0
  | .grant _ _ | .readLink _ _ | .readSlot _ _ | .readEvents _ _ | .readProfile _ _ | .powerOn _ _ | .lock _ _
  | .unlock _ _ | .gate _ _ | .restart _ _ => some 1
  | .powerOff _ _ | .clearFault _ _ => some 2
  | .ackEvents _ _ | .setSupply _ _ => some 3
  | .setNotices _ _ | .setHardware _ _ => some 4
  | .setIndicator _ _ | .setBlink _ _ => some 5
  | .setSlot _ _ | .setProfile _ _ | .setClasses _ _ => some 8
  | .setBudget _ _ => some 9
  | _ => none

/-- A slot stands before another in shedding order (R77): slots in DRAIN first, the longest-draining first; then the
others by priority ascending and admission stamp descending; equal ones by lower slot number. -/
abbrev State.RanksBefore (s : State) (i j : SlotId) : Prop :=
  let a := s.slot i
  let b := s.slot j
  if a.power = .drain then
    b.power = .drain →
      s.drainElapsed j < s.drainElapsed i ∨ (s.drainElapsed j = s.drainElapsed i ∧ i < j)
  else
    b.power ≠ .drain ∧
      (a.priority < b.priority ∨
        (a.priority = b.priority ∧
          (b.admissionStamp < a.admissionStamp ∨ (a.admissionStamp = b.admissionStamp ∧ i < j))))

end Sys2Proof.Machine
end

