-- ==== Sys2Proof/Certificates/Slice0/Obligations.lean ====
section
/-! DEFINITION. The statements for the provers: what the manual's rules say of the block. -/
open Sys2Proof Sys2Proof.Machine

/-! ### Steps and time -/

/-- A step takes the command at the front of the queue: it is exec of that command on the state with the queue's rest
(the queue of commands is the model's own, log 1). -/
def Obligations.StepTakesTheFrontCommand : Prop :=
  ∀ (s : State) (c : Instr) (rest : List Instr),
    step { s with pending := c :: rest } = exec c { s with pending := rest }

/-- What the part does of its own (log 1, log 2). The happenings it owes are those that `State.Due` spells out, one case for
each row. With no command waiting a step takes one of them or, where it owes at most the execution of a request (R162), is a
tick of the time base; the free value names the move where several are open, and every owed happening is open. -/
def Obligations.StepWithoutCommand : Prop :=
  ∀ s : State,
    (∀ c, c ∈ s.dueHappenings ↔ s.Due c) ∧
    (∀ c, some c ∈ s.moves ↔ s.Due c) ∧
    (none ∈ s.moves ↔ ∀ c, s.Due c → c.request.isSome = true) ∧
    (s.pending = [] →
      let taken (u : State) (m : Option Instr) : Host.Outcome State Fault Refusal :=
        match m with
        | some c => exec c u
        | none => .next u.tick
      (∀ m, s.moves = [m] → step s = taken s m) ∧
      (∀ k m, 2 ≤ s.moves.length → Config.choice s.choices % s.moves.length = k → s.moves[k]? = some m →
        step s = taken { s with choices := s.choices + 1 } m))

/-- One tick of the time base: the uptime wraps (R181), and every running count of every slot, and the gap count outside
HUNT, moves by 1 (R51, R117, R124, R158). Nothing else of a slot but its lines moves. -/
def Obligations.TickCounts : Prop :=
  ∀ s : State,
    s.tick.part.uptime = s.part.uptime + 1 ∧
    (∀ i, ∃ lines, { s.tick.slot i with lines := lines, out := (s.slot i).out } =
      { s.slot i with
        lines := lines, stageTimer := (s.slot i).stageTimer.map (· - 1)
        holdOff := (s.slot i).holdOff.map (· - 1), lockTimer := (s.slot i).lockTimer.map (· - 1) }) ∧
    (s.port.receiver ≠ .hunt → s.tick.port = { s.port with gap := s.port.gap + 1 }) ∧
    (s.port.receiver = .hunt → s.tick.port = s.port)

/-- The lines. A tick samples every line of every slot, every supply and RESTART once, at the levels that the outside world
has left at the pins (log 9). After k samples at the level opposite to the debounced value, and none before, the change is
due after n samples and not earlier; a sample at the level held restarts the count (R2, R45, R92, R109, R183). A fall of
BUTTON, FAULT or RESTART takes effect in the filter alone (log 5). The counts are those of the manual for each line of a slot
and of a supply, in both directions. -/
def Obligations.LinesAreDebounced : Prop :=
  (∀ (l : Line) (n k : Nat), l.level ≠ l.held → l.count = 0 →
    ((Line.sample^[k]) l).dueAfter n = decide (n ≤ k) ∧ ((Line.sample^[k]) l).held = l.held) ∧
  (∀ l : Line, l.level = l.held → l.sample.count = 0) ∧
  (∀ n k : Nat, 0 < n →
    ((Line.sampleQuiet n)^[k]) ⟨true, false, 0⟩ = ⟨true, false, k⟩ ∧
    ((Line.sampleQuiet n)^[k]) ⟨false, true, 0⟩ = (if k < n then ⟨false, true, k⟩ else ⟨false, false, 0⟩) ∧
    ∀ (v : Bool) (count : Nat), Line.sampleQuiet n ⟨v, v, count⟩ = ⟨v, v, 0⟩) ∧
  (∀ s : State,
    let w := s.driveWires
    (∀ i, let l := (w.slot i).lines
      (s.tick.slot i).lines =
        { present := l.present.sample, lever := l.lever.sample, button := l.button.sampleQuiet 20
          lockSense := l.lockSense.sample, auxGood := l.auxGood.sample, mainGood := l.mainGood.sample
          ready := l.ready.sample, fault := l.fault.sampleQuiet 2, class0 := l.class0, class1 := l.class1 }) ∧
    (∀ n, (s.tick.budget.supplies.get n).line = (w.budget.supplies.get n).line.sample) ∧
    s.tick.part.restartLine = w.part.restartLine.sampleQuiet 5 ∧
    (s.wires = [] → w = s) ∧
    (∀ now later, s.wires = now :: later → w = now.foldl (fun t c => t.drivePin c.1 c.2) { s with wires := later }) ∧
    (∀ p v q, (s.drivePin p v).levelAt q = if q = p then v else s.levelAt q)) ∧
  (∀ (s : State) (p : Pin) (v : Bool) (i : SlotId),
    let same (a b : Line) : Prop := a.held = b.held ∧ a.count = b.count
    let l := (s.slot i).lines
    let l' := ((s.drivePin p v).slot i).lines
    same l'.present l.present ∧ same l'.lever l.lever ∧ same l'.button l.button ∧ same l'.lockSense l.lockSense ∧
    same l'.auxGood l.auxGood ∧ same l'.mainGood l.mainGood ∧ same l'.ready l.ready ∧ same l'.fault l.fault ∧
    same (s.drivePin p v).part.restartLine s.part.restartLine ∧
    ∀ n, same ((s.drivePin p v).budget.supplies.get n).line (s.budget.supplies.get n).line) ∧
  (∀ (s : State) (i : SlotId),
    let l := (s.slot i).lines
    (.insertion i l.class0 l.class1 ∈ s.dueHappenings ↔ l.present.held = false ∧ l.present.dueAfter 50 = true) ∧
    (.removal i ∈ s.dueHappenings ↔ l.present.held = true ∧ l.present.dueAfter 50 = true) ∧
    (∀ closed, .leverChange i closed ∈ s.dueHappenings ↔ l.lever.level = closed ∧ l.lever.dueAfter 20 = true) ∧
    (.buttonPress i ∈ s.dueHappenings ↔ l.button.held = false ∧ l.button.dueAfter 20 = true) ∧
    (∀ engaged, .lockSenseChange i engaged ∈ s.dueHappenings ↔
      l.lockSense.level = engaged ∧ l.lockSense.dueAfter 20 = true) ∧
    (.auxGoodRises i ∈ s.dueHappenings ↔ l.auxGood.held = false ∧ l.auxGood.dueAfter 2 = true) ∧
    (.railGoodFalls i .aux ∈ s.dueHappenings ↔ l.auxGood.held = true ∧ l.auxGood.dueAfter 2 = true) ∧
    (.mainGoodRises i ∈ s.dueHappenings ↔ l.mainGood.held = false ∧ l.mainGood.dueAfter 2 = true) ∧
    (.railGoodFalls i .main ∈ s.dueHappenings ↔ l.mainGood.held = true ∧ l.mainGood.dueAfter 2 = true) ∧
    (.readyRises i ∈ s.dueHappenings ↔ l.ready.held = false ∧ l.ready.dueAfter 10 = true) ∧
    (.readyFalls i ∈ s.dueHappenings ↔ l.ready.held = true ∧ l.ready.dueAfter 10 = true) ∧
    (.faultLineRises i ∈ s.dueHappenings ↔ l.fault.held = false ∧ l.fault.dueAfter 2 = true)) ∧
  (∀ (s : State) (n : SupplyId) (good : Bool),
    .supplyGoodChange n good ∈ s.dueHappenings ↔
      (s.budget.supplies.get n).line.level = good ∧ (s.budget.supplies.get n).line.dueAfter 10 = true) ∧
  (∀ s : State, .restartLineRise ∈ s.dueHappenings ↔
    s.part.restartLine.held = false ∧ s.part.restartLine.dueAfter 5 = true)

/-! ### Requests of the port and of the part -/

/-- A request whose payload has another length than R170 gives is answered BAD_LENGTH, and a request whose KIND is no
request code BAD_KIND; nothing else changes (R162). -/
def Obligations.WrongKindOrLength : Prop :=
  (∀ (s : State) (c : Instr) (tag kind : Byte) (payload : List Byte) (n : Nat),
    c.request = some (tag, kind, payload) → payloadLength c = some n → payload.length ≠ n →
    s.Owes kind tag payload →
    ∃ t, exec c s = .next t ∧ s.Answered t kind tag [0x23]) ∧
  (∀ (s : State) (tag kind : Byte) (payload : List Byte),
    kind ∉ requestCodes → s.Owes kind tag payload →
    ∃ t, exec (.badKind tag kind payload) s = .next t ∧ s.Answered t kind tag [0x22])

/-- IDENTIFY reports the fixed codes, the restart cause, the frozen flag and the uptime, and changes nothing (R173). -/
def Obligations.Identify : Prop :=
  ∀ (s : State) (tag : Byte), s.Owes 0x01 tag [] →
    ∃ t, exec (.identify tag []) s = .next t ∧
      s.Answered t 0x01 tag
        (([0x00, 0x0B, 0x7A, 0x00, 0x24, 1, 24, 4, 1] : List Byte) ++
          [(match s.part.restartCause with | .powerOn => 0 | .restartLine => 1 | .restartRequest => 2 : Byte)] ++
          [flagByte s.part.frozen] ++ u32 s.part.uptime.toNat)

/-- GRANT adds its amount to the credit, at most up to 64, and answers the credit afterwards (R151). READ-LINK answers the five
counters and the rate code, and clears the counters when its flag is set; a flag that is neither clear nor set is answered
BAD_VALUE (R167). -/
def Obligations.GrantAndReadLink : Prop :=
  (∀ (s : State) (tag a : Byte), s.Owes 0x02 tag [a] →
     ∃ t, exec (.grant tag [a]) s = .next t ∧
       ({ s with port.credit := min 64 (s.port.credit + a.toNat) } : State).Answered t 0x02 tag
         [0x00, BitVec.ofNat 8 (min 64 (s.port.credit + a.toNat))]) ∧
  (∀ (s : State) (tag b : Byte), s.Owes 0x03 tag [b] →
     let p := s.port
     let reply := [0x00] ++ u16 p.framesAccepted ++ u16 p.checkFailures ++ u16 p.gapAborts ++ u16 p.lengthErrors ++
       u16 p.droppedRejects ++ [BitVec.ofNat 8 p.linkRate]
     (b = 0 → ∃ t, exec (.readLink tag [b]) s = .next t ∧ s.Answered t 0x03 tag reply) ∧
     (b = 1 → ∃ t, exec (.readLink tag [b]) s = .next t ∧
       ({ s with
           port := { p with framesAccepted := 0, checkFailures := 0, gapAborts := 0, lengthErrors := 0, droppedRejects := 0 } } :
         State).Answered t 0x03 tag reply) ∧
     (1 < b.toNat → ∃ t, exec (.readLink tag [b]) s = .next t ∧ s.Answered t 0x03 tag [0x21]))


/-- SET-NOTICES writes both masks together and recomputes ALERT; a mask that names anything but the eleven kinds is
answered BAD_VALUE (R149). -/
def Obligations.SetNotices : Prop :=
  ∀ (s : State) (tag n1 n0 a1 a0 : Byte), s.Owes 0x04 tag [n1, n0, a1, a0] →
    let alert := decide ((s.events.pendingZero &&& (a1 ++ a0)) ≠ 0 ∨ ∃ i, ((s.slot i).pendingSet &&& (a1 ++ a0)) ≠ 0)
    (n1.toNat < 8 ∧ a1.toNat < 8 →
      ∃ t, exec (.setNotices tag [n1, n0, a1, a0]) s = .next t ∧
        ({ s with events := { s.events with noticeMask := n1 ++ n0, alertMask := a1 ++ a0, alert := alert } } :
          State).Answered t 0x04 tag [0x00, n1, n0, a1, a0]) ∧
    (8 ≤ n1.toNat ∨ 8 ≤ a1.toNat →
      ∃ t, exec (.setNotices tag [n1, n0, a1, a0]) s = .next t ∧ s.Answered t 0x04 tag [0x21])

/-- READ-SLOT answers the 64 bytes of the slot's record, each group at the place that R176 gives it and an absent group
as zeros, and changes nothing; a number outside 1 to 24 is answered BAD_SLOT (R176). -/
def Obligations.ReadSlot : Prop :=
  (∀ (s : State) (tag : Byte) (i : SlotId), s.Owes 0x10 tag [slotByte i] →
    ∃ t reply, exec (.readSlot tag [slotByte i]) s = .next t ∧ s.Answered t 0x10 tag reply ∧
      let sl := s.slot i
      reply.length = 64 ∧
      bytesAt reply 0 [0x00, slotByte i, BitVec.ofNat 8 sl.power.code] ∧
      bytesAt reply 3 [flagByte sl.hardware.enabled, flagByte sl.hardware.lockFitted,
        flagByte sl.hardware.surpriseTolerant] ∧
      bytesAt reply 6 [flagByte sl.lines.present.held,
        (match sl.moduleClass with | none => 255 | some c => BitVec.ofNat 8 c.val),
        flagByte sl.lines.lever.held, flagByte sl.lines.lockSense.held] ∧
      bytesAt reply 10 [BitVec.ofNat 8 sl.buttonPolicy.code, flagByte sl.autoStart, flagByte sl.autoPending] ∧
      bytesAt reply 13 (u16 (sl.holdOff.getD 65535)) ∧
      bytesAt reply 15 [BitVec.ofNat 8 sl.profileIndex.val, flagByte sl.readyRequired] ∧
      bytesAt reply 17 (match sl.operation with
        | none => List.replicate 8 0
        | some o => BitVec.ofNat 8 o.kind.code :: u16 o.ticket ++ BitVec.ofNat 8 o.origin.code :: u32 o.start.toNat) ∧
      bytesAt reply 25 (match sl.lastOutcome with
        | none => List.replicate 10 0
        | some o => BitVec.ofNat 8 o.kind.code :: u16 o.ticket ++
            [BitVec.ofNat 8 o.origin.code, BitVec.ofNat 8 o.outcome.code, (o.refusal.map Status.code).getD 255] ++
            u32 o.stamp.toNat) ∧
      bytesAt reply 35 (u16 (sl.overrideDraw.getD 65535)) ∧
      bytesAt reply 37 (match sl.commitment with
        | none => List.replicate 8 0
        | some c => 1 :: u16 c.amount ++ u32 c.stamp ++ [flagByte c.inrush]) ∧
      bytesAt reply 45 [BitVec.ofNat 8 sl.priority, flagByte sl.restoreAfterShed] ∧
      bytesAt reply 47 (match sl.lastFault with
        | none => List.replicate 8 0
        | some f => [BitVec.ofNat 8 f.kind.code, BitVec.ofNat 8 f.state.code] ++ u16 f.ticket ++ u32 f.stamp.toNat) ∧
      bytesAt reply 55 [BitVec.ofNat 8 sl.faultCount] ∧
      bytesAt reply 56 [BitVec.ofNat 8 sl.lamps.powerHost.code, flagByte sl.lamps.powerAuto,
        BitVec.ofNat 8 sl.lamps.attnHost.code, flagByte sl.lamps.attnAuto, BitVec.ofNat 8 sl.out.powerMode.code,
        BitVec.ofNat 8 sl.out.attnMode.code] ∧
      bytesAt reply 62 (u16 sl.pendingSet.toNat)) ∧
  (∀ (s : State) (tag n : Byte), s.Owes 0x10 tag [n] → n.toNat = 0 ∨ 24 < n.toNat →
    ∃ t, exec (.readSlot tag [n]) s = .next t ∧ s.Answered t 0x10 tag [0x20])

/-- READ-QUEUE answers the number of entries and four bytes for each in queue order (R40, R177), and READ-BUDGET the
budget, the admission settings and the supplies (R178); neither changes anything. A GOOD that is true is carried as 1 and
one that is false as 0: R169 lists no code for it (the model's choice, log 27). -/
def Obligations.ReadQueueAndBudget : Prop :=
  (∀ (s : State) (tag : Byte), s.Owes 0x11 tag [] →
    ∃ t, exec (.readQueue tag []) s = .next t ∧
      s.Answered t 0x11 tag (0x00 :: BitVec.ofNat 8 s.admission.queue.length ::
        s.admission.queue.flatMap fun e => [slotByte e.slot, BitVec.ofNat 8 e.priority, BitVec.ofNat 8 e.origin.code,
          BitVec.ofNat 8 (if e.heldForRise then 16 + e.bypass else e.bypass)])) ∧
  (∀ (s : State) (tag : Byte), s.Owes 0x12 tag [] →
    ∃ t reply, exec (.readBudget tag []) s = .next t ∧ s.Answered t 0x12 tag reply ∧
      reply.length = 56 ∧
      bytesAt reply 0 (0x00 :: u32 s.budget.ceiling ++ u32 s.budget.committed) ∧
      bytesAt reply 9 [BitVec.ofNat 8 (s.admission.positions - s.admission.inrushHeld),
        BitVec.ofNat 8 s.admission.positions, BitVec.ofNat 8 s.admission.gate.code,
        BitVec.ofNat 8 s.admission.policy.code, BitVec.ofNat 8 s.admission.bypassLimit,
        BitVec.ofNat 8 s.budget.mode.code] ∧
      bytesAt reply 15 (u32 s.budget.reserve ++ [BitVec.ofNat 8 s.holdOffTime]) ∧
      (∀ c : Fin 4, bytesAt reply (20 + 2 * c.val) (u16 (s.budget.classDraws.get c))) ∧
      (∀ n : SupplyId, bytesAt reply (28 + 7 * n.val)
        (u16 (s.budget.supplies.get n).capacity ++ [flagByte (s.budget.supplies.get n).line.held] ++
          u32 (s.budget.supplies.get n).stamp.toNat)))

/-- READ-EVENTS answers one pending set, or all 25 with the overflow fields, and the form for all ends the overflow
episode (R147). ACK-EVENTS takes the kinds named out of the set, withdraws their entries, recomputes ALERT and answers
the set afterwards (R146). -/
def Obligations.ReadAndAckEvents : Prop :=
  (∀ (s : State) (tag : Byte), s.Owes 0x13 tag [255] →
    ∃ t, exec (.readEvents tag [255]) s = .next t ∧
      ({ s with
          events := { s.events with overflow := false, announced := false, lostCount := 0, overflowStamp := none } } :
        State).Answered t 0x13 tag
        (0x00 :: u16 s.events.pendingZero.toNat ++ (List.finRange 24).flatMap (fun i => u16 (s.slot i).pendingSet.toNat) ++
          [flagByte s.events.overflow, BitVec.ofNat 8 s.events.lostCount] ++
          u32 ((s.events.overflowStamp.map BitVec.toNat).getD 0))) ∧
  (∀ (s : State) (tag : Byte), s.Owes 0x13 tag [0] →
    ∃ t, exec (.readEvents tag [0]) s = .next t ∧
      s.Answered t 0x13 tag ([0x00, 0] ++ u16 s.events.pendingZero.toNat)) ∧
  (∀ (s : State) (tag : Byte) (i : SlotId), s.Owes 0x13 tag [slotByte i] →
    ∃ t, exec (.readEvents tag [slotByte i]) s = .next t ∧
      s.Answered t 0x13 tag ([0x00, slotByte i] ++ u16 (s.slot i).pendingSet.toNat)) ∧
  (∀ (s : State) (tag n : Byte), s.Owes 0x13 tag [n] → 24 < n.toNat → n.toNat < 255 →
    ∃ t, exec (.readEvents tag [n]) s = .next t ∧ s.Answered t 0x13 tag [0x20]) ∧
  (∀ (s : State) (tag k1 k0 : Byte) (i : SlotId), s.Owes 0x14 tag [slotByte i, k1, k0] →
    (k1 = 0 →
      let left := (s.slot i).pendingSet &&& ~~~(k1 ++ k0)
      ∃ t, exec (.ackEvents tag [slotByte i, k1, k0]) s = .next t ∧
        ({ s with
            slots := s.slots.set i.val (({ s.slot i with pendingSet := left } : Slot).driven s.slow.lit s.fast.lit) i.isLt
            events.notices :=
              s.events.notices.filter fun n => !(decide (n.subject = some i) && hasKind (k1 ++ k0) n.kind) } :
          State).realert.Answered t 0x14 tag (0x00 :: u16 left.toNat)) ∧
    (k1 ≠ 0 → ∃ t, exec (.ackEvents tag [slotByte i, k1, k0]) s = .next t ∧ s.Answered t 0x14 tag [0x21])) ∧
  (∀ (s : State) (tag k1 k0 : Byte), s.Owes 0x14 tag [0, k1, k0] →
    (k0 = 0 ∧ k1.toNat < 8 →
      let left := s.events.pendingZero &&& ~~~(k1 ++ k0)
      ∃ t, exec (.ackEvents tag [0, k1, k0]) s = .next t ∧
        ({ s with
            events.pendingZero := left
            events.notices := s.events.notices.filter fun n => !(decide (n.subject = none) && hasKind (k1 ++ k0) n.kind) } :
          State).realert.Answered t 0x14 tag (0x00 :: u16 left.toNat)) ∧
    (k0 ≠ 0 ∨ 8 ≤ k1.toNat →
      ∃ t, exec (.ackEvents tag [0, k1, k0]) s = .next t ∧ s.Answered t 0x14 tag [0x21])) ∧
  (∀ (s : State) (tag n k1 k0 : Byte), s.Owes 0x14 tag [n, k1, k0] → 24 < n.toNat →
    ∃ t, exec (.ackEvents tag [n, k1, k0]) s = .next t ∧ s.Answered t 0x14 tag [0x20])

/-- READ-PROFILE answers one profile's six fields and changes nothing (R53). SET-PROFILE checks its fields whole and
writes the six together (R52). -/
def Obligations.Profiles : Prop :=
  (∀ (s : State) (tag : Byte) (k : Fin 4), s.Owes 0x15 tag [BitVec.ofNat 8 k.val] →
    ∃ t, exec (.readProfile tag [BitVec.ofNat 8 k.val]) s = .next t ∧
      let p := s.profiles.get k
      s.Answered t 0x15 tag
        ([0x00, BitVec.ofNat 8 k.val, BitVec.ofNat 8 p.auxCode, BitVec.ofNat 8 p.mainCode] ++ u16 p.settleMs ++
          [flagByte p.readyRequired, BitVec.ofNat 8 p.readyCode, BitVec.ofNat 8 p.graceCode])) ∧
  (∀ (s : State) (tag n : Byte), s.Owes 0x15 tag [n] → 3 < n.toNat →
    ∃ t, exec (.readProfile tag [n]) s = .next t ∧ s.Answered t 0x15 tag [0x21]) ∧
  (∀ (s : State) (tag n ax mn t1 t0 rr rt dg : Byte), s.Owes 0x34 tag [n, ax, mn, t1, t0, rr, rt, dg] →
    let bad := 3 < n.toNat ∨ 14 < ax.toNat ∨ 14 < mn.toNat ∨ 2000 < (t1 ++ t0 : Word16).toNat ∨ 1 < rr.toNat ∨
      15 < rt.toNat ∨ 15 < dg.toNat
    bad → ∃ t, exec (.setProfile tag [n, ax, mn, t1, t0, rr, rt, dg]) s = .next t ∧ s.Answered t 0x34 tag [0x21]) ∧
  (∀ (s : State) (tag ax mn t1 t0 rt dg : Byte) (k : Fin 4) (rr : Bool),
    let payload := [BitVec.ofNat 8 k.val, ax, mn, t1, t0, flagByte rr, rt, dg]
    s.Owes 0x34 tag payload → ax.toNat ≤ 14 → mn.toNat ≤ 14 → (t1 ++ t0 : Word16).toNat ≤ 2000 → rt.toNat ≤ 15 →
    dg.toNat ≤ 15 →
    ∃ t, exec (.setProfile tag payload) s = .next t ∧
      ({ s with
          profiles := s.profiles.set k.val
            ⟨ax.toNat, mn.toNat, (t1 ++ t0 : Word16).toNat, rr, rt.toNat, dg.toNat⟩ k.isLt } : State).Answered
        t 0x34 tag [0x00])
/-! ### Requests to a slot -/

/-- A POWER-ON to an IDLE slot that passes every check joins the admission queue with origin HOST, a new ticket and a new
enqueue stamp, and is answered ACCEPTED with the ticket (R21 to R23, R26). -/
def Obligations.PowerOnJoins : Prop :=
  ∀ (s : State) (tag : Byte) (i : SlotId), s.Owes 0x20 tag [slotByte i] →
    (s.slot i).power = .idle → (s.slot i).mayPowerOn →
    ∃ t, exec (.powerOn tag [slotByte i]) s = .next t ∧
      ((s.afterJoin i .host false).becomes i
          { (s.slot i).joined .host s.part.ticketCounter s.part.uptime with holdOff := none } []).Answered
            t 0x20 tag (0x01 :: u16 s.part.ticketCounter)

/-- A POWER-ON cancels the slot's hold-off window, and nothing else changes when a check fails, the first failing check
giving the status, or when the slot is in another state than IDLE (R21, R22). A slot number outside 1 to 24 changes
nothing at all. -/
def Obligations.PowerOnWithoutJoin : Prop :=
  (∀ (s : State) (tag : Byte) (i : SlotId) (reply : List Byte), s.Owes 0x20 tag [slotByte i] →
    let sl := s.slot i
    (if sl.hardware.enabled = false then reply = [0x12, 0, 0]
      else if sl.power = .faulted then reply = [0x14, 0, 0]
      else if sl.lines.present.held = false then reply = [0x13, 0, 0]
      else if sl.lines.lever.held = false then reply = [0x15, 0, 0]
      else if sl.hardware.lockFitted = true ∧ sl.lines.lockSense.held = false then reply = [0x16, 0, 0]
      else if ∃ o ∈ sl.operation, o.kind = .lock ∨ o.kind = .unlock then reply = [0x10, 0, 0]
      else if sl.power = .on then reply = 0x03 :: u16 ((sl.lastOutcome.map (·.ticket)).getD 0)
      else if sl.power = .drain then reply = [0x10, 0, 0]
      else if sl.power = .idle ∨ sl.power = .vacant then False
      else ∃ o ∈ sl.operation, reply = 0x03 :: u16 o.ticket) →
    ∃ t, exec (.powerOn tag [slotByte i]) s = .next t ∧
      (s.becomes i { sl with holdOff := none } []).Answered t 0x20 tag reply) ∧
  (∀ (s : State) (tag n : Byte), s.Owes 0x20 tag [n] → n.toNat = 0 ∨ 24 < n.toNat →
    ∃ t, exec (.powerOn tag [n]) s = .next t ∧ s.Answered t 0x20 tag [0x20, 0, 0])

/-- A POWER-OFF to a slot without power that does not wait is answered ALREADY with ticket 0, and to a WAITING slot takes its
entry out of the queue and ends its operation CANCELLED, answered DONE with its ticket (R64); a slot number or a force field
out of range is refused (R63). In AUX_RAMP to READY_WAIT it cuts the slot, whatever its force field, releases its commitment,
ends the POWER_ON operation ABORTED and is answered DONE with its ticket (R62, R65); the due marks of the slot go with the
cut (log 12). In each case a running hold-off window of the slot is cancelled. -/
def Obligations.PowerOffBeforeOn : Prop :=
  ((∀ (s : State) (tag : Byte) (i : SlotId) (force : Bool), s.Owes 0x21 tag [slotByte i, flagByte force] →
     (s.slot i).power = .vacant ∨ (s.slot i).power = .idle ∨ (s.slot i).power = .faulted →
     ∃ t, exec (.powerOff tag [slotByte i, flagByte force]) s = .next t ∧
       (s.becomes i { s.slot i with holdOff := none } []).Answered t 0x21 tag [0x03, 0, 0]) ∧
   (∀ (s : State) (tag : Byte) (i : SlotId) (force : Bool) (o : Operation),
     s.Owes 0x21 tag [slotByte i, flagByte force] → (s.slot i).power = .waiting → (s.slot i).operation = some o →
     ∃ t, exec (.powerOff tag [slotByte i, flagByte force]) s = .next t ∧ (({ s with
           admission.queue := s.admission.queue.filter fun e => decide (e.slot ≠ i)
           admission.passDue := true } : State).becomes i
               { (s.slot i).ended .cancelled s.part.uptime with power := .idle, holdOff := none } [(some i, .opDone)]).Answered
                 t 0x21 tag (0x02 :: u16 o.ticket)) ∧
   (∀ (s : State) (tag n f : Byte), s.Owes 0x21 tag [n, f] → n.toNat = 0 ∨ 24 < n.toNat →
     ∃ t, exec (.powerOff tag [n, f]) s = .next t ∧ s.Answered t 0x21 tag [0x20, 0, 0]) ∧
   (∀ (s : State) (tag f : Byte) (i : SlotId), s.Owes 0x21 tag [slotByte i, f] → 1 < f.toNat →
     ∃ t, exec (.powerOff tag [slotByte i, f]) s = .next t ∧
       (s.becomes i { s.slot i with holdOff := none } []).Answered t 0x21 tag [0x21, 0, 0])) ∧
  (∀ (s : State) (tag : Byte) (i : SlotId) (force : Bool) (o : Operation),
     s.Owes 0x21 tag [slotByte i, flagByte force] → (s.slot i).operation = some o →
     (s.slot i).power = .auxRamp ∨ (s.slot i).power = .mainRamp ∨ (s.slot i).power = .settle ∨
       (s.slot i).power = .readyWait →
     ∃ t, exec (.powerOff tag [slotByte i, flagByte force]) s = .next t ∧
       ((s.afterRelease i).becomes i
           { ((s.slot i).off .idle).ended .aborted s.part.uptime with holdOff := none } [(some i, .opDone)]).Answered
             t 0x21 tag (0x02 :: u16 o.ticket))


/-- A POWER-OFF in ON starts a drain under a new POWER_OFF operation when its force field is clear (R66, R70), and cuts
the slot with outcome DONE when it is set (R67). In DRAIN it changes nothing when clear, and ends the drain FORCED when
set (R68). The due marks of the slot go with the cut (log 12). -/
def Obligations.PowerOffInOnAndDrain : Prop :=
  (∀ (s : State) (tag : Byte) (i : SlotId), s.Owes 0x21 tag [slotByte i, 0] → (s.slot i).power = .on →
    let sl := s.slot i
    let p := s.profiles.get sl.profileIndex
    ∃ t, exec (.powerOff tag [slotByte i, 0]) s = .next t ∧
      (({ s with part.ticketCounter := ticketAfter s.part.ticketCounter } : State).becomes i { sl with
          power := .drain, holdOff := none, autoPending := false
          operation := some ⟨.powerOff, s.part.ticketCounter, .host, s.part.uptime⟩
          stageTimer := timeoutMs p.graceCode, readyRequired := p.readyRequired
          endDue := if p.readyRequired then !sl.lines.ready.held else decide (p.graceCode = 15) } []).Answered
            t 0x21 tag (0x01 :: u16 s.part.ticketCounter)) ∧
  (∀ (s : State) (tag : Byte) (i : SlotId), s.Owes 0x21 tag [slotByte i, 1] → (s.slot i).power = .on →
    ∃ t, exec (.powerOff tag [slotByte i, 1]) s = .next t ∧
      (({ s.afterRelease i with part.ticketCounter := ticketAfter s.part.ticketCounter } : State).becomes i
          { (s.slot i).off .idle with
          holdOff := none, autoPending := false, operation := none
          lastOutcome := some ⟨.powerOff, s.part.ticketCounter, .host, .done, none, s.part.uptime⟩ } [(some i, .opDone)]).Answered
            t 0x21 tag (0x02 :: u16 s.part.ticketCounter)) ∧
  (∀ (s : State) (tag : Byte) (i : SlotId) (o : Operation), s.Owes 0x21 tag [slotByte i, 0] →
    (s.slot i).power = .drain → (s.slot i).operation = some o →
    ∃ t, exec (.powerOff tag [slotByte i, 0]) s = .next t ∧
      (s.becomes i { s.slot i with holdOff := none } []).Answered t 0x21 tag (0x03 :: u16 o.ticket)) ∧
  (∀ (s : State) (tag : Byte) (i : SlotId) (o : Operation), s.Owes 0x21 tag [slotByte i, 1] →
    (s.slot i).power = .drain → (s.slot i).operation = some o →
    ∃ t, exec (.powerOff tag [slotByte i, 1]) s = .next t ∧
      ((s.afterRelease i).becomes i
          { ((s.slot i).off .idle).ended .forced s.part.uptime with holdOff := none } [(some i, .opDone)]).Answered
            t 0x21 tag (0x02 :: u16 o.ticket))

/-- CLEAR-FAULT takes a FAULTED slot to IDLE with a module and to VACANT without one, answered OK, and leaves another
state, answered ALREADY; it sets the fault count to 0 when its flag is set, keeps the record, and answers the state and
the count afterwards (R103). A slot number or a flag out of range is refused, and nothing changes (R102). Auto-start
pending is left as it is, in a slot that becomes VACANT too (log 19). -/
def Obligations.ClearFault : Prop :=
  (∀ (s : State) (tag : Byte) (i : SlotId) (clear : Bool), s.Owes 0x22 tag [slotByte i, flagByte clear] →
    let sl := s.slot i
    let power := if sl.power = .faulted then (if sl.lines.present.held then .idle else .vacant) else sl.power
    let count := if clear then 0 else sl.faultCount
    ∃ t, exec (.clearFault tag [slotByte i, flagByte clear]) s = .next t ∧
      (s.becomes i { sl with power := power, faultCount := count } []).Answered t 0x22 tag
        [if sl.power = .faulted then 0x00 else 0x03, BitVec.ofNat 8 power.code, BitVec.ofNat 8 count]) ∧
  (∀ (s : State) (tag n f : Byte), s.Owes 0x22 tag [n, f] → n.toNat = 0 ∨ 24 < n.toNat →
    ∃ t, exec (.clearFault tag [n, f]) s = .next t ∧ s.Answered t 0x22 tag [0x20]) ∧
  (∀ (s : State) (tag f : Byte) (i : SlotId), s.Owes 0x22 tag [slotByte i, f] → 1 < f.toNat →
    ∃ t, exec (.clearFault tag [slotByte i, f]) s = .next t ∧ s.Answered t 0x22 tag [0x21])

/-- LOCK and UNLOCK: the first failing check, of the slot number first, gives the status with ticket 0 and nothing
changes; when all pass, the lock operation starts with a new ticket and a deadline of 500 ms, and its end is due at once
if the sense already shows the target (R124). The drive follows the operation (R123). -/
def Obligations.LockAndUnlock : Prop :=
  (∀ (s : State) (tag : Byte) (i : SlotId) (engage : Bool),
     let kind : Byte := if engage then 0x23 else 0x24
     let c := if engage then Instr.lock tag [slotByte i] else Instr.unlock tag [slotByte i]
     let sl := s.slot i
     let stateOk := sl.power = .vacant ∨ sl.power = .idle ∨ (sl.power = .faulted ∧ engage = false)
     s.Owes kind tag [slotByte i] →
     (sl.hardware.enabled = false → ∃ t, exec c s = .next t ∧ s.Answered t kind tag [0x12, 0, 0]) ∧
     (sl.hardware.enabled = true → sl.hardware.lockFitted = false →
       ∃ t, exec c s = .next t ∧ s.Answered t kind tag [0x17, 0, 0]) ∧
     (sl.hardware.enabled = true → sl.hardware.lockFitted = true → ¬stateOk →
       ∃ t, exec c s = .next t ∧ s.Answered t kind tag [0x11, 0, 0]) ∧
     (sl.hardware.enabled = true → sl.hardware.lockFitted = true → stateOk → sl.operation.isSome = true →
       ∃ t, exec c s = .next t ∧ s.Answered t kind tag [0x10, 0, 0]) ∧
     (sl.hardware.enabled = true → sl.hardware.lockFitted = true → stateOk → sl.operation = none →
       ∃ t, exec c s = .next t ∧ (t.slot i).out.lockDrive = (if engage then .engage else .release) ∧
         (({ s with part.ticketCounter := ticketAfter s.part.ticketCounter } : State).becomes i { sl with
             operation := some ⟨if engage then .lock else .unlock, s.part.ticketCounter, .host, s.part.uptime⟩
             lockTimer := some 500
             lockEndDue :=
               if sl.lines.lockSense.held = engage then some s.part.ticketCounter else sl.lockEndDue } []).Answered
                 t kind tag (0x01 :: u16 s.part.ticketCounter))) ∧
  (∀ (s : State) (tag n : Byte) (engage : Bool), n.toNat = 0 ∨ 24 < n.toNat →
     let kind : Byte := if engage then 0x23 else 0x24
     s.Owes kind tag [n] →
     ∃ t, exec (if engage then Instr.lock tag [n] else Instr.unlock tag [n]) s = .next t ∧
       s.Answered t kind tag [0x20, 0, 0])

/-- SET-INDICATOR writes the four settings of a slot together, the outputs following at once, and answers them with the
two effective modes; a slot number out of range is answered BAD_SLOT, any other value out of range BAD_VALUE, and then
nothing changes (R135). -/
def Obligations.SetIndicator : Prop :=
  (∀ (s : State) (tag : Byte) (i : SlotId) (ph ah : IndMode) (pa aa : Bool),
    let payload := [slotByte i, BitVec.ofNat 8 ph.code, flagByte pa, BitVec.ofNat 8 ah.code, flagByte aa]
    let new : Slot := { s.slot i with lamps := ⟨ph, pa, ah, aa⟩ }
    s.Owes 0x25 tag payload →
    ∃ t, exec (.setIndicator tag payload) s = .next t ∧
      (s.becomes i new []).Answered t 0x25 tag
        [0x00, BitVec.ofNat 8 ph.code, flagByte pa, BitVec.ofNat 8 ah.code, flagByte aa,
          BitVec.ofNat 8 new.powerMode.code, BitVec.ofNat 8 new.attnMode.code]) ∧
  (∀ (s : State) (tag ph pa ah aa : Byte) (i : SlotId), s.Owes 0x25 tag [slotByte i, ph, pa, ah, aa] →
    3 < ph.toNat ∨ 1 < pa.toNat ∨ 3 < ah.toNat ∨ 1 < aa.toNat →
    ∃ t, exec (.setIndicator tag [slotByte i, ph, pa, ah, aa]) s = .next t ∧ s.Answered t 0x25 tag [0x21]) ∧
  (∀ (s : State) (tag n ph pa ah aa : Byte), s.Owes 0x25 tag [n, ph, pa, ah, aa] → n.toNat = 0 ∨ 24 < n.toNat →
    ∃ t, exec (.setIndicator tag [n, ph, pa, ah, aa]) s = .next t ∧ s.Answered t 0x25 tag [0x20])

/-- SET-SLOT: BAD_SLOT, DISABLED or BAD_VALUE in that order and then nothing changes (R179); otherwise the six settings
are written together, a change from TOGGLE to EVENT_ONLY cancels a running window, a WAITING slot given another
priority has its entry moved to the tail of its new group, and the settings are answered (R27, R180). -/
def Obligations.SetSlot : Prop :=
  (∀ (s : State) (tag n pr pi o1 o0 bp au rs : Byte), s.Owes 0x30 tag [n, pr, pi, o1, o0, bp, au, rs] →
    n.toNat = 0 ∨ 24 < n.toNat →
    ∃ t, exec (.setSlot tag [n, pr, pi, o1, o0, bp, au, rs]) s = .next t ∧ s.Answered t 0x30 tag [0x20]) ∧
  (∀ (s : State) (tag pr pi o1 o0 bp au rs : Byte) (i : SlotId),
    let payload := [slotByte i, pr, pi, o1, o0, bp, au, rs]
    let sl := s.slot i
    let draw := (o1 ++ o0 : Word16).toNat
    let ok := pr.toNat ≤ 7 ∧ pi.toNat ≤ 3 ∧ (draw ≤ 20000 ∨ draw = 65535) ∧ bp.toNat ≤ 1 ∧ au.toNat ≤ 1 ∧ rs.toNat ≤ 1
    s.Owes 0x30 tag payload →
    (sl.hardware.enabled = false →
      ∃ t, exec (.setSlot tag payload) s = .next t ∧ s.Answered t 0x30 tag [0x12]) ∧
    (sl.hardware.enabled = true → ¬ok →
      ∃ t, exec (.setSlot tag payload) s = .next t ∧ s.Answered t 0x30 tag [0x21])) ∧
  (∀ (s : State) (tag : Byte) (i : SlotId) (pr : Fin 8) (pi : Fin 4) (draw : Option Nat) (bp : ButtonPolicy) (au rs : Bool),
    let fields := [BitVec.ofNat 8 pr.val, BitVec.ofNat 8 pi.val] ++ u16 (draw.getD 65535) ++
      [BitVec.ofNat 8 bp.code, flagByte au, flagByte rs]
    let sl := s.slot i
    let new : Slot :=
      { sl with
        priority := pr.val, profileIndex := pi, overrideDraw := draw, buttonPolicy := bp, autoStart := au
        restoreAfterShed := rs
        holdOff := if sl.buttonPolicy = .toggle ∧ bp = .eventOnly then none else sl.holdOff }
    let stamp := min 4294967295 (s.admission.enqueueCounter + 1)
    s.Owes 0x30 tag (slotByte i :: fields) → sl.hardware.enabled = true → (∀ d ∈ draw, d ≤ 20000) →
    (sl.power ≠ .waiting ∨ pr.val = sl.priority →
      ∃ t, exec (.setSlot tag (slotByte i :: fields)) s = .next t ∧
        (s.becomes i new []).Answered t 0x30 tag (0x00 :: fields)) ∧
    (sl.power = .waiting → pr.val ≠ sl.priority → ∀ e ∈ s.admission.queue.find? (fun e => decide (e.slot = i)),
      ∃ t, exec (.setSlot tag (slotByte i :: fields)) s = .next t ∧
        (({ s with
            admission.enqueueCounter := stamp
            admission.passDue := true
            admission.queue :=
              queueWith { e with priority := pr.val, stamp := stamp, bypass := 0 }
                (s.admission.queue.filter fun e => decide (e.slot ≠ i)) } : State).becomes i new []).Answered
          t 0x30 tag (0x00 :: fields)))

/-- SET-HARDWARE: BAD_SLOT, BAD_VALUE, FROZEN, IN_USE or BUSY in that order and then nothing changes; otherwise the three settings
are written, and with enabled unchanged nothing else happens (R127). A disabling cancels the window, makes the slot VACANT
without class, empties its pending set, withdraws its notices and discards a lock operation, whose OP_DONE enters the emptied
set (R128). An enabling of a slot with a module makes it IDLE with its class read, posts INSERTED and makes the auto-start
attempt; without a module the slot stays VACANT (R129). -/
def Obligations.SetHardware : Prop :=
  ((∀ (s : State) (tag n e l h : Byte), s.Owes 0x31 tag [n, e, l, h] → n.toNat = 0 ∨ 24 < n.toNat →
     ∃ t, exec (.setHardware tag [n, e, l, h]) s = .next t ∧ s.Answered t 0x31 tag [0x20]) ∧
   (∀ (s : State) (tag e l h : Byte) (i : SlotId), s.Owes 0x31 tag [slotByte i, e, l, h] →
     1 < e.toNat ∨ 1 < l.toNat ∨ 1 < h.toNat →
     ∃ t, exec (.setHardware tag [slotByte i, e, l, h]) s = .next t ∧ s.Answered t 0x31 tag [0x21]) ∧
   (∀ (s : State) (tag : Byte) (e l h : Bool) (i : SlotId),
     let payload := [slotByte i, flagByte e, flagByte l, flagByte h]
     let sl := s.slot i
     let stateOk := sl.power = .vacant ∨ sl.power = .idle ∨ sl.power = .faulted
     let lockOp := ∃ o ∈ sl.operation, o.kind = .lock ∨ o.kind = .unlock
     s.Owes 0x31 tag payload →
     (s.part.frozen = true → ∃ t, exec (.setHardware tag payload) s = .next t ∧ s.Answered t 0x31 tag [0x18]) ∧
     (s.part.frozen = false → ¬stateOk →
       ∃ t, exec (.setHardware tag payload) s = .next t ∧ s.Answered t 0x31 tag [0x11]) ∧
     (s.part.frozen = false → stateOk → lockOp →
       ¬(l = sl.hardware.lockFitted ∧ (e = false ∨ e = sl.hardware.enabled)) →
       ∃ t, exec (.setHardware tag payload) s = .next t ∧ s.Answered t 0x31 tag [0x10]))) ∧
  (∀ (s : State) (tag : Byte) (e l h : Bool) (i : SlotId),
     let payload := [slotByte i, flagByte e, flagByte l, flagByte h]
     let sl := s.slot i
     let reply := [0x00, flagByte e, flagByte l, flagByte h]
     let gone : Slot :=
       { sl with
         hardware := ⟨e, l, h⟩, holdOff := none, power := .vacant, moduleClass := none, autoPending := false
         pendingSet := 0 }
     let come : Slot :=
       { sl with
         hardware := ⟨e, l, h⟩, power := .idle, autoPending := true
         moduleClass := some (classOf sl.lines.class0 sl.lines.class1) }
     let seated := sl.lines.lever.held = true ∧ (l = true → sl.lines.lockSense.held = true)
     s.Owes 0x31 tag payload → s.part.frozen = false →
     sl.power = .vacant ∨ sl.power = .idle ∨ sl.power = .faulted →
     ((∃ o ∈ sl.operation, o.kind = .lock ∨ o.kind = .unlock) →
       l = sl.hardware.lockFitted ∧ (e = false ∨ e = sl.hardware.enabled)) →
     (e = sl.hardware.enabled →
       ∃ t, exec (.setHardware tag payload) s = .next t ∧
         (s.becomes i { sl with hardware := ⟨e, l, h⟩ } []).Answered t 0x31 tag reply) ∧
     (sl.hardware.enabled = true → e = false → sl.operation = none →
       ∃ t, exec (.setHardware tag payload) s = .next t ∧ (s.emptiedAt i gone).Answered t 0x31 tag reply) ∧
     (∀ o ∈ sl.operation, sl.hardware.enabled = true → e = false → o.kind = .lock ∨ o.kind = .unlock →
       ∃ t, exec (.setHardware tag payload) s = .next t ∧
         ((s.emptiedAt i gone).becomes i { gone.ended .discarded s.part.uptime with lockTimer := none }
           [(some i, .opDone)]).Answered t 0x31 tag reply) ∧
     (sl.hardware.enabled = false → e = true → sl.lines.present.held = false →
       ∃ t, exec (.setHardware tag payload) s = .next t ∧
         (s.becomes i { sl with hardware := ⟨e, l, h⟩ } []).Answered t 0x31 tag reply) ∧
     (sl.hardware.enabled = false → e = true → sl.lines.present.held = true → ¬(sl.autoStart = true ∧ seated) →
       ∃ t, exec (.setHardware tag payload) s = .next t ∧
         (s.becomes i come [(some i, .inserted)]).Answered t 0x31 tag reply) ∧
     (sl.hardware.enabled = false → e = true → sl.lines.present.held = true → sl.autoStart = true → seated →
       ∃ t, exec (.setHardware tag payload) s = .next t ∧
         ((s.afterJoin i .auto false).becomes i (come.joined .auto s.part.ticketCounter s.part.uptime)
           [(some i, .inserted)]).Answered t 0x31 tag reply))

/-! ### Settings of the part -/

/-- SET-SUPPLY: BAD_VALUE, FROZEN or OVER_COMMITTED in that order and then nothing changes; otherwise the capacity is
written, the ceiling follows, CEILING is posted if it changed, and a rise clears the held-for-rise marks and makes a pass
due. With GOOD false the ceiling does not change, and a write of the present capacity changes nothing (R17). -/
def Obligations.SetSupply : Prop :=
  (∀ (s : State) (tag n c1 c0 : Byte), s.Owes 0x32 tag [n, c1, c0] →
    n.toNat = 0 ∨ 4 < n.toNat ∨ 30000 < (c1 ++ c0 : Word16).toNat →
    ∃ t, exec (.setSupply tag [n, c1, c0]) s = .next t ∧ s.Answered t 0x32 tag [0x21]) ∧
  (∀ (s : State) (tag c1 c0 : Byte) (k : SupplyId),
    let payload := [BitVec.ofNat 8 (k.val + 1), c1, c0]
    let capacity := (c1 ++ c0 : Word16).toNat
    let old := s.budget.supplies.get k
    let supplies := s.budget.supplies.set k.val { old with capacity := capacity } k.isLt
    let would := ceilingFor supplies s.budget.reserve s.budget.mode
    let u : State :=
      ({ s with
          budget := { s.budget with supplies := supplies, ceiling := would }
          admission.queue :=
            if s.budget.ceiling < would then s.admission.queue.map fun e => { e with heldForRise := false }
            else s.admission.queue
          admission.passDue := s.admission.passDue || decide (s.budget.ceiling < would) } : State).posting
        (if would = s.budget.ceiling then [] else [(none, .ceiling)])
    s.Owes 0x32 tag payload → capacity ≤ 30000 → s.budget.ceiling = s.budget.computed →
    (s.part.frozen = true → ∃ t, exec (.setSupply tag payload) s = .next t ∧ s.Answered t 0x32 tag [0x18]) ∧
    (s.part.frozen = false → old.line.held = true → would < s.budget.committed →
      ∃ t, exec (.setSupply tag payload) s = .next t ∧
        s.Answered t 0x32 tag (0x19 :: (u32 would ++ u32 s.budget.committed))) ∧
    (s.part.frozen = false → old.line.held = false ∨ s.budget.committed ≤ would →
      ∃ t, exec (.setSupply tag payload) s = .next t ∧ u.Answered t 0x32 tag (0x00 :: u32 would)) ∧
    (old.line.held = false → would = s.budget.ceiling) ∧
    (old.capacity = capacity → u = s))

/-- SET-BUDGET: BAD_VALUE, OVER_COMMITTED or IN_USE in that order and then nothing changes (R18); otherwise the six
settings are written together and the ceiling follows, with CEILING posted if it changed; a rise clears the held-for-rise
marks, and a rise or a change of an admission setting makes a pass due (R19). -/
def Obligations.SetBudget : Prop :=
  (∀ (s : State) (tag r3 r2 r1 r0 m p b k h : Byte), s.Owes 0x33 tag [r3, r2, r1, r0, m, p, b, k, h] →
    120000 < (r3 ++ r2 ++ r1 ++ r0 : Word32).toNat ∨ 1 < m.toNat ∨ 1 < p.toNat ∨ 15 < b.toNat ∨ k.toNat = 0 ∨
      4 < k.toNat ∨ h.toNat = 0 ∨ 15 < h.toNat →
    ∃ t, exec (.setBudget tag [r3, r2, r1, r0, m, p, b, k, h]) s = .next t ∧ s.Answered t 0x33 tag [0x21]) ∧
  (∀ (s : State) (tag r3 r2 r1 r0 b k h : Byte) (m : BudgetMode) (p : Policy),
    let payload := [r3, r2, r1, r0, BitVec.ofNat 8 m.code, BitVec.ofNat 8 p.code, b, k, h]
    let reserve := (r3 ++ r2 ++ r1 ++ r0 : Word32).toNat
    let would := ceilingFor s.budget.supplies reserve m
    let changed := decide (p ≠ s.admission.policy ∨ b.toNat ≠ s.admission.bypassLimit ∨
      k.toNat ≠ s.admission.positions)
    let u : State :=
      ({ s with
          budget := { s.budget with reserve := reserve, mode := m, ceiling := would }
          admission :=
            { s.admission with
              policy := p, bypassLimit := b.toNat, positions := k.toNat
              queue :=
                if s.budget.ceiling < would then s.admission.queue.map fun e => { e with heldForRise := false }
                else s.admission.queue
              passDue := s.admission.passDue || changed || decide (s.budget.ceiling < would) }
          holdOffTime := h.toNat } : State).posting
        (if would = s.budget.ceiling then [] else [(none, .ceiling)])
    s.Owes 0x33 tag payload → reserve ≤ 120000 → b.toNat ≤ 15 → 1 ≤ k.toNat → k.toNat ≤ 4 → 1 ≤ h.toNat →
    h.toNat ≤ 15 →
    (would < s.budget.committed →
      ∃ t, exec (.setBudget tag payload) s = .next t ∧
        s.Answered t 0x33 tag (0x19 :: (u32 would ++ u32 s.budget.committed))) ∧
    (s.budget.committed ≤ would → k.toNat < s.admission.inrushHeld →
      ∃ t, exec (.setBudget tag payload) s = .next t ∧ s.Answered t 0x33 tag [0x11]) ∧
    (s.budget.committed ≤ would → s.admission.inrushHeld ≤ k.toNat →
      ∃ t, exec (.setBudget tag payload) s = .next t ∧ u.Answered t 0x33 tag (0x00 :: u32 would)))

/-- SET-CLASSES writes the four class draws together or, with one above 2000.0 W, none of them; it leaves the commitments, the
ceiling and the pass-due mark as they are (R20). SET-BLINK holds a period and an on-time as the pattern's pending values and
answers the values in force and the pending ones; a field out of range is answered BAD_VALUE, and the pattern is kept
(R137). -/
def Obligations.SetClassesAndBlink : Prop :=
  (∀ (s : State) (tag a1 a0 b1 b0 c1 c0 d1 d0 : Byte),
     let payload := [a1, a0, b1, b0, c1, c0, d1, d0]
     let a := (a1 ++ a0 : Word16).toNat
     let b := (b1 ++ b0 : Word16).toNat
     let c := (c1 ++ c0 : Word16).toNat
     let d := (d1 ++ d0 : Word16).toNat
     s.Owes 0x35 tag payload →
     (a ≤ 20000 ∧ b ≤ 20000 ∧ c ≤ 20000 ∧ d ≤ 20000 →
       ∃ t, exec (.setClasses tag payload) s = .next t ∧
         ({ s with budget.classDraws := #v[a, b, c, d] } : State).Answered t 0x35 tag [0x00]) ∧
     (¬(a ≤ 20000 ∧ b ≤ 20000 ∧ c ≤ 20000 ∧ d ≤ 20000) →
       ∃ t, exec (.setClasses tag payload) s = .next t ∧ s.Answered t 0x35 tag [0x21])) ∧
  ((∀ (s : State) (tag pt p1 p0 o1 o0 : Byte), s.Owes 0x36 tag [pt, p1, p0, o1, o0] →
     1 < pt.toNat ∨ (p1 ++ p0 : Word16).toNat < 100 ∨ 4000 < (p1 ++ p0 : Word16).toNat ∨
       (p1 ++ p0 : Word16).toNat < (o1 ++ o0 : Word16).toNat →
     ∃ t, exec (.setBlink tag [pt, p1, p0, o1, o0]) s = .next t ∧ s.Answered t 0x36 tag [0x21]) ∧
   (∀ (s : State) (tag p1 p0 o1 o0 : Byte) (fast : Bool),
     let payload := [flagByte fast, p1, p0, o1, o0]
     let period := (p1 ++ p0 : Word16).toNat
     let onTime := (o1 ++ o0 : Word16).toNat
     let old := if fast then s.fast else s.slow
     let new := { old with waiting := some (period, onTime) }
     s.Owes 0x36 tag payload → 100 ≤ period → period ≤ 4000 → onTime ≤ period →
     ∃ t, exec (.setBlink tag payload) s = .next t ∧
       (if fast then { s with fast := new } else { s with slow := new } : State).Answered t 0x36 tag
         (0x00 :: (u16 old.period ++ u16 old.onTime ++ [1, p1, p0, o1, o0]))))


/-- GATE writes the gate; an opening makes a pass due; the present value is answered ALREADY, another field BAD_VALUE; every
reply carries the gate afterwards (R33). FREEZE sets the frozen flag, once (R174). RESTART is answered OK and asks for a
ride-through restart with keep-power set and for a full one with it clear; from then on no request is executed; another field
is answered BAD_VALUE (R175). -/
def Obligations.GateFreezeRestart : Prop :=
  ((∀ (s : State) (tag : Byte) (g : Gate), s.Owes 0x37 tag [BitVec.ofNat 8 g.code] →
     (g = s.admission.gate →
       ∃ t, exec (.gate tag [BitVec.ofNat 8 g.code]) s = .next t ∧
         s.Answered t 0x37 tag [0x03, BitVec.ofNat 8 g.code]) ∧
     (g ≠ s.admission.gate →
       ∃ t, exec (.gate tag [BitVec.ofNat 8 g.code]) s = .next t ∧
         ({ s with
             admission.gate := g
             admission.passDue := s.admission.passDue || decide (g = .opened) } : State).Answered t 0x37 tag
           [0x00, BitVec.ofNat 8 g.code])) ∧
   (∀ (s : State) (tag b : Byte), s.Owes 0x37 tag [b] → 1 < b.toNat →
     ∃ t, exec (.gate tag [b]) s = .next t ∧ s.Answered t 0x37 tag [0x21, BitVec.ofNat 8 s.admission.gate.code])) ∧
  ((∀ (s : State) (tag : Byte), s.Owes 0x3F tag [] →
     (s.part.frozen = false → ∃ t, exec (.freeze tag []) s = .next t ∧
       ({ s with part.frozen := true } : State).Answered t 0x3F tag [0x00]) ∧
     (s.part.frozen = true → ∃ t, exec (.freeze tag []) s = .next t ∧ s.Answered t 0x3F tag [0x03])) ∧
   (∀ (s : State) (tag : Byte) (keep : Bool), s.Owes 0x7F tag [flagByte keep] →
     ∃ t, exec (.restart tag [flagByte keep]) s = .next t ∧
       ({ s with part.restartAsk := .asked keep } : State).Answered t 0x7F tag [0x00] ∧
       ∀ kind' tag' payload', ¬t.Owes kind' tag' payload') ∧
   (∀ (s : State) (tag b : Byte), s.Owes 0x7F tag [b] → 1 < b.toNat →
     ∃ t, exec (.restart tag [b]) s = .next t ∧ s.Answered t 0x7F tag [0x21]))


/-! ### The message port -/

/-- A byte taken in HUNT, HEADER, BODY or before the second check byte moves the receiver as the table of R157 gives, and
starts the gap count anew; nothing else changes but the length-error counter at a LEN above 120. A frame being received is
abandoned without a reply by a character without its stop bit, which raises no counter (R156), and at the tick at which
the gap count reaches 11, which is then due and raises the gap-abort counter (R158). A character or its missing stop bit
clears the mark of a space held on LINK_RX (log 21). -/
def Obligations.ReceiverRuns : Prop :=
  (∀ (s : State) (b : Byte), s.port.offerDue = false →
     let p := { s.port with gap := 0, rxHeld := false }
     (s.port.receiver = .hunt →
       exec (.byteReceived b) s =
         .next { s with port := { p with receiver := if b = 0xA5 then .headerLen else .hunt } }) ∧
     (s.port.receiver = .headerLen → b.toNat ≤ 120 →
       exec (.byteReceived b) s = .next { s with port := { p with receiver := .headerTag b } }) ∧
     (s.port.receiver = .headerLen → 120 < b.toNat →
       exec (.byteReceived b) s =
         .next { s with port := { p with receiver := .hunt, lengthErrors := min 65535 (p.lengthErrors + 1) } }) ∧
     (∀ len, s.port.receiver = .headerTag len →
       exec (.byteReceived b) s = .next { s with port := { p with receiver := .headerKind len b } }) ∧
     (∀ len tag, s.port.receiver = .headerKind len tag →
       exec (.byteReceived b) s =
         .next { s with
           port := { p with
             receiver := if len = 0 then .checkHigh len tag b [] else .body len tag b [] len.toNat } }) ∧
     (∀ len tag kind taken due, s.port.receiver = .body len tag kind taken (due + 1) →
       exec (.byteReceived b) s =
         .next { s with
           port := { p with
             receiver :=
               if due = 0 then .checkHigh len tag kind (taken ++ [b]) else .body len tag kind (taken ++ [b]) due } }) ∧
     (∀ len tag kind payload, s.port.receiver = .checkHigh len tag kind payload →
       exec (.byteReceived b) s = .next { s with port := { p with receiver := .checkLow len tag kind payload b } })) ∧
  ((∀ s : State, s.port.offerDue = false →
     exec .characterWithoutStopBit s =
       .next { s with port := { s.port with receiver := .hunt, gap := 0, rxHeld := false } }) ∧
   (∀ s : State, s.port.offerDue = false → s.port.receiver ≠ .hunt → 11 ≤ s.port.gap →
     .gapAbort ∈ s.dueHappenings ∧
     exec .gapAbort s =
       .next { s with
         port := { s.port with receiver := .hunt, gap := 0, gapAborts := min 65535 (s.port.gapAborts + 1) } }) ∧
   (∀ s : State, s.port.receiver = .hunt ∨ s.port.gap < 11 → .gapAbort ∉ s.dueHappenings))

/-- The second check byte completes the frame, which is judged at once: BAD_CHECK, BAD_TAG, DUP_TAG and PORT_FULL in that
order make a reject, and otherwise the frame joins the request queue (R159). A reject takes a free holding place, and is
dropped and counted when both are held (R160). The character clears the mark of a space held on LINK_RX (log 21), and the
offer to the arbiter is made at the end of the happening (log 10). -/
def Obligations.FramesAreJudged : Prop :=
  ∀ (s : State) (len tag kind high low : Byte) (payload : List Byte),
    s.port.receiver = .checkLow len tag kind payload high →
    let p : Port := { s.port with gap := 0, rxHeld := false, receiver := .hunt }
    let rejected (q : Port) (status : Status) (t : Byte) : Port :=
      if (q.ready.filter Ready.isReject).length < 2 then
        { q with ready := q.ready ++ [.reject status t], offerDue := true }
      else { q with droppedRejects := min 65535 (q.droppedRejects + 1) }
    let after : Port :=
      if frameCheck len tag kind payload ≠ high ++ low then
        rejected { p with checkFailures := min 65535 (p.checkFailures + 1) } .badCheck 0
      else if tag = 0 then rejected p .badTag 0
      else if tag ∈ p.requests.map (·.tag) then rejected p .dupTag tag
      else if 8 ≤ p.requests.length then rejected p .portFull tag
      else
        { p with
          requests := p.requests ++ [⟨tag, kind, payload, none⟩]
          framesAccepted := min 65535 (p.framesAccepted + 1) }
    exec (.byteReceived low) s = .next ({ s with port := after } : State).finish

/-- Frames have the layout of R156 in both directions. A frame that is sent is SYNC, the length, the tag, the KIND and the
payload of a reply, a reject or a notice, and the 16-bit check, high byte first: a cyclic check with generator
x^16 + x^12 + x^5 + 1 over the bytes behind SYNC, most significant bit first, from all ones. A whole frame with a tag that is
not held, received from HUNT with fewer than 8 requests held, is accepted: its tag, KIND and payload join the request queue as
they were sent, and nothing else happens but the count and the mark of a space held on LINK_RX, which the characters clear
(R157, R159, R161; log 21). -/
def Obligations.FramesOnTheLine : Prop :=
  (∀ bytes : List Byte,
    crc bytes =
      (bytes.flatMap fun b => [7, 6, 5, 4, 3, 2, 1, 0].map fun n => b.getLsbD n).foldl
        (fun (r : Word16) bit => if r.getLsbD 15 = bit then r <<< 1 else (r <<< 1) ^^^ 0x1021) 0xFFFF) ∧
  (∀ tag kind : Byte, ∀ payload : List Byte,
    let len : Byte := BitVec.ofNat 8 payload.length
    let check := crc ([len, tag, kind] ++ payload)
    frameBytes tag kind payload =
      [0xA5, len, tag, kind] ++ payload ++ [BitVec.ofNat 8 (check.toNat / 256), BitVec.ofNat 8 check.toNat]) ∧
  (∀ kind tag payload, (TxFrame.reply kind tag payload).bytes = frameBytes tag 0x80 payload) ∧
  (∀ status tag, (TxFrame.reject status tag).bytes = frameBytes tag 0x80 [status.code]) ∧
  (∀ n : NoticeFrame, ∃ payload, (TxFrame.notice n).bytes = frameBytes 0 0x81 payload ∧ payload.length = 11 ∧
    bytesAt payload 0 [match n.subject with | none => 0 | some i => slotByte i] ∧
    bytesAt payload 1 [match n.kind with | .event k => BitVec.ofNat 8 k.code | .overflow => 12] ∧
    bytesAt payload 2 [BitVec.ofNat 8 n.count] ∧
    bytesAt payload 3 (u32 n.stamp.toNat) ∧
    bytesAt payload 7 [match n.state with | none => 0xFF | some st => BitVec.ofNat 8 st.code] ∧
    bytesAt payload 8 (u16 n.ticket) ∧
    bytesAt payload 10 [match n.outcome with | none => 0 | some o => BitVec.ofNat 8 o.code]) ∧
  (∀ (s : State) (tag kind : Byte) (payload : List Byte),
    s.port.receiver = .hunt → s.port.offerDue = false → tag ≠ 0 → payload.length ≤ 120 →
    tag ∉ s.port.requests.map (·.tag) → s.port.requests.length < 8 →
    s.receiveAll (frameBytes tag kind payload) =
      { s with
        port := { s.port with
          gap := 0, rxHeld := false
          requests := s.port.requests ++ [⟨tag, kind, payload, none⟩]
          framesAccepted := min 65535 (s.port.framesAccepted + 1) } })

/-- A link reset returns the receiver to HUNT, abandons the frame being sent, forgets every request and reject, and sets
the credit to 0; the counters, the rate and every other block are kept (R164). A requested restart then is due at once,
and no request is left to execute (R165). While LINK_RX stays at space the arbiter starts no frame. The space held on
LINK_RX is the mark rxHeld, until the next character (log 21); the restart is due by log 11. -/
def Obligations.LinkReset : Prop :=
  ∀ s : State, ∃ t, exec .linkReset s = .next t ∧
    t.port = { s.port with
      receiver := .hunt, gap := 0, sending := none, requests := [], ready := [], credit := 0, rxHeld := true
      offerDue := false } ∧
    t.part.restartAsk =
      (match s.part.restartAsk with | .none => .none | .asked k => .due k | .due k => .due k) ∧
    { t with port := s.port, part.restartAsk := s.part.restartAsk } = s ∧
    (∀ kind tag payload, ¬t.Owes kind tag payload) ∧
    (∀ k, s.part.restartAsk = .asked k → .requestedRestart ∈ t.dueHappenings) ∧
    (∀ v : State, v.port.rxHeld = true → v.finish.port.sending = v.port.sending)

/-- The transmit arbiter's offer at the end of a happening that made a frame ready (R163): on a busy line nothing starts;
on an idle line the reply or reject produced first starts, and a request leaves the queue at the start of its reply; with
neither and credit, an OVERFLOW notice not yet announced starts, otherwise the notice at the head (R152), with its
contents as R153 gives; otherwise the offer lapses. When the offer is made is the model's choice: the mark port.offerDue
carries it to the end of the happening (log 10). While a requested restart is due the line counts as not idle (log 11). -/
def Obligations.ArbiterOffers : Prop :=
  ∀ s : State, s.port.offerDue = true →
    let s0 : State := { s with port.offerDue := false }
    (s.lineIdle = false → s.finish = s0) ∧
    (s.lineIdle = true → ∀ rest, ∀ r ∈ s.port.requests, ∀ bytes, s.port.ready = .reply r.tag :: rest →
      r.reply = some bytes → (s.port.requests.map (·.tag)).Nodup →
      s.finish =
        { s0 with
          port := { s0.port with
            ready := rest, requests := s.port.requests.filter fun x => decide (x.tag ≠ r.tag)
            sending := some (.reply r.kind r.tag bytes) } }) ∧
    (s.lineIdle = true → ∀ rest status tag, s.port.ready = .reject status tag :: rest →
      s.finish = { s0 with port := { s0.port with ready := rest, sending := some (.reject status tag) } }) ∧
    (s.lineIdle = true → s.port.ready = [] → 1 ≤ s.port.credit → s.events.overflow = true →
      s.events.announced = false →
      s.finish =
        { s0 with
          events.announced := true
          port.credit := s.port.credit - 1
          port.sending := some (.notice
            ⟨none, .overflow, s.events.lostCount, s.events.overflowStamp.getD 0, none, 0, none⟩) }) ∧
    (s.lineIdle = true → s.port.ready = [] → 1 ≤ s.port.credit →
      ¬(s.events.overflow = true ∧ s.events.announced = false) →
      ∀ n rest, s.events.notices = n :: rest →
      let last := if n.kind = .opDone then n.subject.bind fun i => (s.slot i).lastOutcome else none
      s.finish =
        { s0 with
          events.notices := rest
          port.credit := s.port.credit - 1
          port.sending := some (.notice
            ⟨n.subject, .event n.kind, n.count, n.stamp, n.subject.map fun i => (s.slot i).power,
              (last.map (·.ticket)).getD 0, last.map (·.outcome)⟩) }) ∧
    (s.lineIdle = true → s.port.ready = [] →
      s.port.credit = 0 ∨ (s.events.notices = [] ∧ ¬(s.events.overflow = true ∧ s.events.announced = false)) →
      s.finish = s0)

/-- The end of a frame frees the line and makes an offer (R163); the end of a RESTART's OK reply makes the requested
restart due in place of it (R162, R184, log 11). The offer is made at the end of the happening (log 10). -/
def Obligations.FrameEnds : Prop :=
  (∀ (s : State) (f : TxFrame), s.port.sending = some f →
    (∀ tag, f ≠ .reply 0x7F tag [0x00]) →
    exec .frameEnd s = .next ({ s with port.sending := none, port.offerDue := true } : State).finish) ∧
  (∀ (s : State) (tag : Byte) (keep : Bool), s.port.sending = some (.reply 0x7F tag [0x00]) →
    s.port.offerDue = false → s.part.restartAsk = .asked keep →
    exec .frameEnd s = .next { s with port.sending := none, part.restartAsk := .due keep } ∧
    .requestedRestart ∈ ({ s with port.sending := none, part.restartAsk := .due keep } : State).dueHappenings)

/-! ### The budget, shedding and admission -/

/-- The ceiling: in FULL mode the sum of the capacities of the good supplies less the reserve; in REDUNDANT mode also less
the largest of them, once; and never below 0.0 W (R4, R5). -/
def Obligations.CeilingIsComputed : Prop :=
  ∀ b : Budget,
    let good := (List.finRange 4).filter fun n => (b.supplies.get n).line.held
    let capacities := good.map fun n => (b.supplies.get n).capacity
    (b.mode = .full → (b.computed : Int) = max 0 ((capacities.sum : Int) - b.reserve)) ∧
    (b.mode = .redundant → good.length ≤ 1 → b.computed = 0) ∧
    (∀ m ∈ good, b.mode = .redundant →
      (∀ n ∈ good, (b.supplies.get n).capacity ≤ (b.supplies.get m).capacity) →
      (b.computed : Int) = max 0 ((capacities.sum : Int) - (b.supplies.get m).capacity - b.reserve))

/-- A change of a supply's GOOD that leaves the ceiling at or above the committed total: GOOD and the stamp, SUPPLY, then
the ceiling with CEILING if it changed; a rise clears every held-for-rise mark and makes a pass due (R6, R7, R85). The
line stands at its new value with a filter count of 0 (log 4). -/
def Obligations.SupplyGoodChanges : Prop :=
  ∀ (s : State) (n : SupplyId) (good : Bool),
    let old := s.budget.supplies.get n
    let supplies := s.budget.supplies.set n.val { old with line := ⟨good, good, 0⟩, stamp := s.part.uptime } n.isLt
    let would := ceilingFor supplies s.budget.reserve s.budget.mode
    old.line.held ≠ good → s.budget.committed ≤ would →
    exec (.supplyGoodChange n good) s =
      .next (({ s with
          budget := { s.budget with supplies := supplies, ceiling := would }
          admission.queue :=
            if s.budget.ceiling < would then s.admission.queue.map fun e => { e with heldForRise := false }
            else s.admission.queue
          admission.passDue := s.admission.passDue || decide (s.budget.ceiling < would) } : State).posting
        ((none, .supply) :: if would = s.budget.ceiling then [] else [(none, .ceiling)])).finish

/-- Shedding takes exactly the slots it must, in shedding order: after a change of GOOD in a lawful state, the slots shed
are those for which the slot and the slots ranking after it held more than the new ceiling, each taken in the order of
R77; the other slots keep their records, and the committed total is not above the ceiling (R75 to R78). The line of GOOD
stands at its new value with a filter count of 0 (log 4). The change is taken whole, though a rise of another GOOD may be
due at the same tick: R7 says that the committed slots do not then depend on the order, its steps say that they do, and
the model follows its steps (log 28). -/
def Obligations.SheddingTakesTheRightSlots : Prop :=
  ∀ (s : State) (n : SupplyId) (good : Bool), s.PowerLawful → (s.budget.supplies.get n).line.held ≠ good →
    let old := s.budget.supplies.get n
    let supplies := s.budget.supplies.set n.val { old with line := ⟨good, good, 0⟩, stamp := s.part.uptime } n.isLt
    let would := ceilingFor supplies s.budget.reserve s.budget.mode
    let before : State :=
      ({ s with
          budget := { s.budget with supplies := supplies, ceiling := would }
          admission.queue :=
            if s.budget.ceiling < would then s.admission.queue.map fun e => { e with heldForRise := false }
            else s.admission.queue
          admission.passDue := s.admission.passDue || decide (s.budget.ceiling < would) } : State).posting
        ((none, .supply) :: if would = s.budget.ceiling then [] else [(none, .ceiling)])
    ∃ victims : List SlotId,
      let after := victims.foldl State.shedVictim before
      exec (.supplyGoodChange n good) s = .next after.finish ∧
      victims.Pairwise (fun i j => s.RanksBefore i j) ∧
      (∀ i, i ∈ victims ↔ (s.slot i).power.powered = true ∧
        would <
          ((allSlots.filter fun j => (s.slot j).power.powered && !decide (s.RanksBefore j i)).map
            fun j => (s.slot j).amount).sum) ∧
      (∀ i, i ∉ victims → after.slot i = s.slot i) ∧
      (∀ i ∈ victims, (after.slot i).commitment = none) ∧
      after.budget.committed ≤ would

/-- What shedding does to a victim: the slot is cut, its commitment released, the operation in flight ended SHED, SHED
posted after its OP_DONE, and the slot left IDLE (R80, R81); from outside DRAIN, with restore-after-shed and its module
present, it joins the queue again with origin RESTORE, a new ticket and a held-for-rise mark (R82, R83). The due marks of
the slot go with the cut (log 12). -/
def Obligations.VictimsAreShed : Prop :=
  ∀ (s : State) (i : SlotId), (s.slot i).power.powered = true → (s.slot i).Lawful →
    let shed := ((s.slot i).off .idle).ended .shed s.part.uptime
    let posts := (s.slot i).endPosts i ++ [(some i, .shed)]
    (¬((s.slot i).power ≠ .drain ∧ (s.slot i).restoreAfterShed = true) →
      s.shedVictim i = (s.afterRelease i).becomes i shed posts) ∧
    ((s.slot i).power ≠ .drain → (s.slot i).restoreAfterShed = true →
      s.shedVictim i =
        ((s.afterRelease i).afterJoin i .restore true).becomes i
          (shed.joined .restore s.part.ticketCounter s.part.uptime) posts)

/-- The first entry that a pass does not stand aside for its mark or its seating: with the gate HELD or no position free the
pass ends; a draw that does not fit blocks it under STRICT and at the bypass limit, or is passed over; a draw that fits is
admitted, here as the last entry: stamp, commitment, committed total, position and AUX_RAMP (R37, R39, R55). -/
def Obligations.AdmissionPassTakesOneEntry : Prop :=
  ∀ (s : State) (aside rest : List QueueEntry) (e : QueueEntry),
    let seated (x : QueueEntry) : Prop :=
      (s.slot x.slot).lines.lever.held = true ∧
        ((s.slot x.slot).hardware.lockFitted = true → (s.slot x.slot).lines.lockSense.held = true)
    let sl := s.slot e.slot
    let p := s.profiles.get sl.profileIndex
    let draw := sl.overrideDraw.or (sl.moduleClass.map fun c => s.budget.classDraws.get c)
    let stamp := min 4294967295 (s.admission.admissionCounter + 1)
    s.admission.passDue = true → s.admission.queue = aside ++ e :: rest →
    (∀ x ∈ aside, x.heldForRise = true ∨ ¬seated x) → e.heldForRise = false → seated e →
    (s.admission.gate = .held ∨ s.admission.positions ≤ s.admission.inrushHeld →
      exec .admissionPass s = .next ({ s with admission.passDue := false } : State).finish) ∧
    (s.admission.gate = .opened → s.admission.inrushHeld < s.admission.positions →
      ∀ amount ∈ draw, s.budget.ceiling = 0 ∨ s.budget.ceiling < s.budget.committed + amount →
      s.admission.policy = .strict ∨ s.admission.bypassLimit ≤ e.bypass ∨ rest = [] →
      exec .admissionPass s = .next ({ s with admission.passDue := false } : State).finish) ∧
    (s.admission.gate = .opened → s.admission.inrushHeld < s.admission.positions → rest = [] →
      ∀ amount ∈ draw, 0 < s.budget.ceiling → s.budget.committed + amount ≤ s.budget.ceiling →
      exec .admissionPass s =
        .next (({ s with
          budget.committed := s.budget.committed + amount
          admission.queue := aside
          admission.admissionCounter := stamp
          admission.inrushHeld := s.admission.inrushHeld + 1
          admission.passDue := false } : State).becomes e.slot
            { sl with
              power := .auxRamp, commitment := some ⟨amount, stamp, true⟩, stageTimer := timeoutMs p.auxCode
              readyRequired := p.readyRequired, endDue := sl.lines.auxGood.held
              overcurrentDue := sl.lines.fault.held } []).finish)

/-- An admission pass over the whole queue, in a lawful state. The entries are considered in queue order; each draw is tested
against the ceiling and the committed total, and each position counted, as the earlier admissions of the same pass left
them (R10, R37). An entry is admitted exactly when it is not stood aside, the gate is OPEN, a position is free, its draw fits,
and no entry ahead of it has ended the pass: by the gate or the positions, or by a draw that does not fit under STRICT or at
the bypass limit. Every slot admitted enters AUX_RAMP with its effective draw committed, under a new stamp, and its POWER_ON
operation unchanged (R39, R55); every other slot is untouched. The entries that stay keep their order and all but their bypass
counts; the count is raised exactly for those passed over ahead of an admitted one (R38). Nothing else changes. -/
def Obligations.AdmissionPassKeepsItsPromises : Prop :=
  ∀ s : State, s.PowerLawful → s.admission.passDue = true →
    ∃ u : State, exec .admissionPass s = .next u.finish ∧
      let q := s.admission.queue
      let admitted (e : QueueEntry) : Bool := decide ((u.slot e.slot).power = .auxRamp)
      let aside (e : QueueEntry) : Bool := e.heldForRise || !(s.slot e.slot).seated
      let draw (e : QueueEntry) : Nat :=
        ((s.slot e.slot).overrideDraw.or ((s.slot e.slot).moduleClass.map fun c => s.budget.classDraws.get c)).getD 0
      let before (a : List QueueEntry) : List QueueEntry := a.filter admitted
      let committed (a : List QueueEntry) : Nat := s.budget.committed + ((before a).map draw).sum
      let stampAfter (n : Nat) : Nat := (fun k => min 4294967295 (k + 1))^[n] s.admission.admissionCounter
      let free (a : List QueueEntry) : Prop :=
        s.admission.gate = .opened ∧ s.admission.inrushHeld + (before a).length < s.admission.positions
      let fits (a : List QueueEntry) (e : QueueEntry) : Prop :=
        0 < s.budget.ceiling ∧ committed a + draw e ≤ s.budget.ceiling
      let ends (a : List QueueEntry) (e : QueueEntry) : Prop :=
        aside e = false ∧
          (¬free a ∨ (¬fits a e ∧ (s.admission.policy = .strict ∨ s.admission.bypassLimit ≤ e.bypass)))
      let overtaken (e : QueueEntry) : Prop := ∃ a b, q = a ++ e :: b ∧ ∃ x ∈ b, admitted x = true
      (∀ a e b, q = a ++ e :: b →
        (admitted e = true ↔
          aside e = false ∧ free a ∧ fits a e ∧ ∀ x y z, a = x ++ y :: z → ¬ends x y) ∧
        (admitted e = true →
          let sl := s.slot e.slot
          let p := s.profiles.get sl.profileIndex
          u.slot e.slot =
            ({ sl with
              power := .auxRamp, commitment := some ⟨draw e, stampAfter ((before a).length + 1), true⟩
              stageTimer := timeoutMs p.auxCode, readyRequired := p.readyRequired, endDue := sl.lines.auxGood.held
              overcurrentDue := sl.lines.fault.held } : Slot).driven s.slow.lit s.fast.lit)) ∧
      (∃ bypass : SlotId → Nat,
        u.admission.queue = (q.filter fun e => !admitted e).map (fun e => { e with bypass := bypass e.slot }) ∧
        ∀ e ∈ q, admitted e = false →
          (overtaken e → aside e = false →
            s.admission.policy = .fit ∧ e.bypass < s.admission.bypassLimit ∧
              bypass e.slot = min 15 (e.bypass + 1)) ∧
          (¬overtaken e ∨ aside e = true → bypass e.slot = e.bypass)) ∧
      (∀ i, (∀ e ∈ q, e.slot = i → admitted e = false) → u.slot i = s.slot i) ∧
      u =
        { s with
          slots := u.slots
          budget.committed := committed q
          admission :=
            { s.admission with
              queue := u.admission.queue
              inrushHeld := s.admission.inrushHeld + (before q).length
              admissionCounter := stampAfter (before q).length
              passDue := false } }


/-! ### Power sequencing -/

/-- The rises of the three lines that end the power-on stages: AUX_GOOD in AUX_RAMP starts MAIN_RAMP (R56), MAIN_GOOD in
MAIN_RAMP starts SETTLE (R57), READY in READY_WAIT reaches ON and ends the POWER_ON operation DONE (R59); in any other
state the debounced line changes and nothing else (R60). A stage end that was due at once ends the stage in the same way,
and a rail whose good line has fallen again then has its RAIL_LOST due (R51, R94); in a slot that has left the stages it
has no effect (R51). The line stands at its new value with a filter count of 0 (log 4). -/
def Obligations.StagesEnd : Prop :=
  (∀ (s : State) (i : SlotId),
     let sl := s.slot i
     let p := s.profiles.get sl.profileIndex
     let aux : Slot := { sl with lines := { sl.lines with auxGood := ⟨true, true, 0⟩ } }
     let main : Slot := { sl with lines := { sl.lines with mainGood := ⟨true, true, 0⟩ } }
     let ready : Slot := { sl with lines := { sl.lines with ready := ⟨true, true, 0⟩ } }
     (sl.lines.auxGood.held = false → sl.power = .auxRamp →
       exec (.auxGoodRises i) s =
         .next (s.becomes i
           { aux with
             power := .mainRamp, stageTimer := timeoutMs p.mainCode, readyRequired := p.readyRequired
             endDue := sl.lines.mainGood.held, auxLostDue := false } []).finish) ∧
     (sl.lines.auxGood.held = false → sl.power ≠ .auxRamp →
       exec (.auxGoodRises i) s = .next (s.becomes i aux []).finish) ∧
     (sl.lines.mainGood.held = false → sl.power = .mainRamp →
       exec (.mainGoodRises i) s =
         .next (s.becomes i
           { main with
             power := .settle, stageTimer := if p.settleMs = 0 then none else some p.settleMs
             readyRequired := p.readyRequired, endDue := decide (p.settleMs = 0), mainLostDue := false } []).finish) ∧
     (sl.lines.mainGood.held = false → sl.power ≠ .mainRamp →
       exec (.mainGoodRises i) s = .next (s.becomes i main []).finish) ∧
     (sl.lines.ready.held = false → sl.power = .readyWait →
       exec (.readyRises i) s =
         .next (s.becomes i
           (({ ready with power := .on, stageTimer := none, endDue := false } : Slot).ended .done s.part.uptime)
           (sl.endPosts i)).finish) ∧
     (sl.lines.ready.held = false → sl.power ≠ .readyWait →
       exec (.readyRises i) s = .next (s.becomes i ready []).finish)) ∧
  (∀ (s : State) (i : SlotId),
     let sl := s.slot i
     let p := s.profiles.get sl.profileIndex
     (sl.endDue = true → sl.power = .auxRamp →
       exec (.stageDueEnd i) s =
         .next (s.becomes i
           { sl with
             power := .mainRamp, stageTimer := timeoutMs p.mainCode, readyRequired := p.readyRequired
             endDue := sl.lines.mainGood.held, auxLostDue := !sl.lines.auxGood.held } []).finish) ∧
     (sl.endDue = true → sl.power = .mainRamp →
       exec (.stageDueEnd i) s =
         .next (s.becomes i
           { sl with
             power := .settle, stageTimer := if p.settleMs = 0 then none else some p.settleMs
             readyRequired := p.readyRequired, endDue := decide (p.settleMs = 0)
             mainLostDue := !sl.lines.mainGood.held } []).finish) ∧
     (sl.endDue = true → sl.power = .readyWait →
       exec (.stageDueEnd i) s =
         .next (s.becomes i
           (({ sl with power := .on, stageTimer := none, endDue := false } : Slot).ended .done s.part.uptime)
           (sl.endPosts i)).finish) ∧
     (sl.power = .vacant ∨ sl.power = .idle ∨ sl.power = .waiting ∨ sl.power = .on ∨ sl.power = .drain ∨
         sl.power = .faulted →
       exec (.stageDueEnd i) s = .next s))

/-- The settle time ends, by its timer or by an end due at once: the inrush position is freed, the commitment stays, a pass
becomes due, and the slot enters READY_WAIT or, with ready-required no, ON with its POWER_ON ended DONE (R14, R58). -/
def Obligations.SettleTimeEnds : Prop :=
  ∀ (s : State) (i : SlotId) (c : Instr),
    let sl := s.slot i
    let p := s.profiles.get sl.profileIndex
    sl.power = .settle →
    (c = .settleTimeEnds i ∧ sl.stageTimer = some 0) ∨ (c = .stageDueEnd i ∧ sl.endDue = true) →
    exec c s =
      .next (({ s with
          admission.inrushHeld := s.admission.inrushHeld - (if sl.commitment.any (·.inrush) then 1 else 0)
          admission.passDue := true } : State).becomes i (sl.settled p s.part.uptime)
        (if p.readyRequired then [] else sl.endPosts i)).finish


/-- The ends of a drain: a fall of READY with ready-required yes, DONE (R71); the expiry of the grace, DRAIN_EXPIRED or,
with ready-required no, DONE (R72); an end due at once, DONE (R70). Each cuts the slot, releases its commitment and leaves
it IDLE (R73). Elsewhere a fall of READY changes the debounced line and nothing else (R60, R71). The line stands at its
new value with a filter count of 0 (log 4). The due marks of the slot go with the cut (log 12). -/
def Obligations.DrainEnds : Prop :=
  ∀ (s : State) (i : SlotId),
    let sl := s.slot i
    let down : Slot := { sl with lines := { sl.lines with ready := ⟨false, false, 0⟩ } }
    let ends (from_ : Slot) (outcome : OutcomeKind) : State :=
      (s.afterRelease i).becomes i ((from_.off .idle).ended outcome s.part.uptime) (sl.endPosts i)
    (sl.lines.ready.held = true → sl.power = .drain → sl.readyRequired = true →
      exec (.readyFalls i) s = .next (ends down .done).finish) ∧
    (sl.lines.ready.held = true → sl.power ≠ .drain ∨ sl.readyRequired = false →
      exec (.readyFalls i) s = .next (s.becomes i down []).finish) ∧
    (sl.power = .drain → sl.stageTimer = some 0 →
      exec (.drainGraceExpiry i) s =
        .next (ends sl (if sl.readyRequired then .drainExpired else .done)).finish) ∧
    (sl.power = .drain → sl.endDue = true →
      exec (.drainDueEnd i) s = .next (ends sl .done).finish)

/-! ### Faults -/

/-- The expiry of a stage deadline is the fault of its stage (R61, R93): record, count, cut, POWER_ON ended FAULT,
FAULTED, FAULT posted, window cancelled (R99). It is due in those three stages alone, and exactly while the count stands
at 0. The due marks of the slot go with the cut (log 12). -/
def Obligations.StageDeadlinesFault : Prop :=
  ∀ (s : State) (i : SlotId),
    let sl := s.slot i
    (.stageDeadlineExpiry i ∈ s.dueHappenings ↔
      sl.power ∈ [.auxRamp, .mainRamp, .readyWait] ∧ sl.stageTimer = some 0) ∧
    ∀ kind : FaultKind,
      (sl.power, kind) ∈ [(.auxRamp, .auxTimeout), (.mainRamp, .mainTimeout), (.readyWait, .readyTimeout)] →
      sl.stageTimer = some 0 →
      exec (.stageDeadlineExpiry i) s =
        .next ((s.afterRelease i).becomes i (sl.faulted kind s.part.uptime)
          (sl.endPosts i ++ [(some i, .fault)])).finish

/-- OVERCURRENT: a rise of FAULT while a rail is enabled, and the one made due at an admission if a rail is still enabled
and FAULT still asserted, are the fault (R95, R99); otherwise they change the line or the mark alone. RAIL_LOST: a fall of
a rail's good line once the rail has come up, and the one made due by a due end if the rail is still enabled and its good
line still down, are the fault (R94, R99); otherwise they change the line or the mark alone. A rise of FAULT acts whatever
its debounced value was (log 5); a line stands at its new value with a filter count of 0 (log 4), and the due marks of the
slot go with the cut (log 12). -/
def Obligations.LinesFault : Prop :=
  ∀ (s : State) (i : SlotId) (rail : Rail),
    let sl := s.slot i
    let enabled := sl.power ∈ [.auxRamp, .mainRamp, .settle, .readyWait, .on, .drain]
    let railEnabled := sl.power ∈ (match rail with
      | .aux => [.auxRamp, .mainRamp, .settle, .readyWait, .on, .drain]
      | .main => [.mainRamp, .settle, .readyWait, .on, .drain] : List PowerState)
    let up := sl.power ∈ (match rail with
      | .aux => [.mainRamp, .settle, .readyWait, .on, .drain]
      | .main => [.settle, .readyWait, .on, .drain] : List PowerState)
    let good := match rail with | .aux => sl.lines.auxGood.held | .main => sl.lines.mainGood.held
    let due := match rail with | .aux => sl.auxLostDue | .main => sl.mainLostDue
    let risen : Slot := { sl with lines := { sl.lines with fault := ⟨true, true, 0⟩ } }
    let fallen : Slot := match rail with
      | .aux => { sl with lines := { sl.lines with auxGood := ⟨false, false, 0⟩ } }
      | .main => { sl with lines := { sl.lines with mainGood := ⟨false, false, 0⟩ } }
    let taken : Slot := match rail with
      | .aux => { sl with auxLostDue := false }
      | .main => { sl with mainLostDue := false }
    let faults (from_ : Slot) (kind : FaultKind) : State :=
      (s.afterRelease i).becomes i (from_.faulted kind s.part.uptime) (sl.endPosts i ++ [(some i, .fault)])
    (enabled → exec (.faultLineRises i) s = .next (faults risen .overcurrent).finish) ∧
    (¬enabled → exec (.faultLineRises i) s = .next (s.becomes i risen []).finish) ∧
    (sl.overcurrentDue = true → enabled → sl.lines.fault.held = true →
      exec (.overcurrentDue i) s = .next (faults sl .overcurrent).finish) ∧
    (sl.overcurrentDue = true → ¬enabled ∨ sl.lines.fault.held = false →
      exec (.overcurrentDue i) s = .next (s.becomes i { sl with overcurrentDue := false } []).finish) ∧
    (good = true → up → exec (.railGoodFalls i rail) s = .next (faults fallen .railLost).finish) ∧
    (good = true → ¬up → exec (.railGoodFalls i rail) s = .next (s.becomes i fallen []).finish) ∧
    (due = true → railEnabled → good = false →
      exec (.railLostDue i rail) s = .next (faults sl .railLost).finish) ∧
    (due = true → ¬railEnabled ∨ good = true →
      exec (.railLostDue i rail) s = .next (s.becomes i taken []).finish)

/-! ### The bay -/

/-- An insertion into an enabled slot reads the class from the CLASS lines, sets auto-start pending and posts INSERTED; a
VACANT slot becomes IDLE and makes the auto-start attempt, a FAULTED one stays FAULTED (R110, R111, R122). In a disabled
slot the presence changes and nothing else (R128). The line stands at its new value with a filter count of 0 (log 4). -/
def Obligations.Insertion : Prop :=
  ∀ (s : State) (i : SlotId) (class0 class1 : Bool),
    let sl := s.slot i
    let here : Slot :=
      { sl with lines := { sl.lines with present := ⟨true, true, 0⟩, class0 := class0, class1 := class1 } }
    let read : Slot := { here with moduleClass := some (classOf class0 class1), autoPending := true }
    sl.lines.present.held = false →
    (sl.hardware.enabled = true → sl.power = .vacant →
      exec (.insertion i class0 class1) s =
        .next (s.becomesOrStarts i { read with power := .idle } [(some i, .inserted)]).finish) ∧
    (sl.hardware.enabled = true → sl.power = .faulted →
      exec (.insertion i class0 class1) s = .next (s.becomes i read [(some i, .inserted)]).finish) ∧
    (sl.hardware.enabled = false →
      exec (.insertion i class0 class1) s = .next (s.becomes i here []).finish)

/-- A loss of presence in an enabled slot: from IDLE and WAITING the slot becomes VACANT, a WAITING entry leaving the
queue and its operation ending REMOVED; FAULTED stays (R112). With a rail enabled it is the fault REMOVED_LIVE, and then
the class is absent (R97), or in a surprise-tolerant slot a cut to VACANT with the operation ended REMOVED (R113). REMOVED
is posted last. In a disabled slot the presence changes and nothing else (R128). The line stands at its new value with a
filter count of 0 (log 4). The due marks of the slot go with the cut (log 12). -/
def Obligations.Removal : Prop :=
  ∀ (s : State) (i : SlotId),
    let sl := s.slot i
    let now := s.part.uptime
    let gone : Slot := { sl with lines := { sl.lines with present := ⟨false, false, 0⟩ } }
    let vacated (from_ : Slot) : Slot :=
      { from_ with power := .vacant, holdOff := none, moduleClass := none, autoPending := false }
    sl.lines.present.held = true →
    (sl.hardware.enabled = true → sl.power = .idle →
      exec (.removal i) s = .next (s.becomes i (vacated gone) [(some i, .removed)]).finish) ∧
    (sl.hardware.enabled = true → sl.power = .waiting →
      exec (.removal i) s =
        .next (({ s with
            admission.queue := s.admission.queue.filter fun e => decide (e.slot ≠ i)
            admission.passDue := true } : State).becomes i (vacated (gone.ended .removed now))
          (sl.endPosts i ++ [(some i, .removed)])).finish) ∧
    (sl.hardware.enabled = true → sl.power = .faulted →
      exec (.removal i) s = .next (s.becomes i { gone with moduleClass := none } [(some i, .removed)]).finish) ∧
    (sl.hardware.enabled = true → sl.power.powered = true → sl.hardware.surpriseTolerant = false →
      exec (.removal i) s =
        .next ((s.afterRelease i).becomes i { gone.faulted .removedLive now with moduleClass := none }
          (sl.endPosts i ++ [(some i, .fault), (some i, .removed)])).finish) ∧
    (sl.hardware.enabled = true → sl.power.powered = true → sl.hardware.surpriseTolerant = true →
      exec (.removal i) s =
        .next ((s.afterRelease i).becomes i (vacated ((gone.off .vacant).ended .removed now))
          (sl.endPosts i ++ [(some i, .removed)])).finish) ∧
    (sl.hardware.enabled = false → exec (.removal i) s = .next (s.becomes i gone []).finish)

/-- A change of the lever in an enabled slot posts LEVER. An opening first takes the fault LEVER_OPEN with a rail enabled
(R96) or ends a LOCK operation in VACANT or IDLE with outcome LEVER_OPEN (R126); a closing makes a pass due for a WAITING
slot that is now seated, and the auto-start attempt in IDLE (R115). In a disabled slot the lever changes and nothing else
(R128). The line stands at its new value with a filter count of 0 (log 4). The due marks of the slot go with the cut (log
12). -/
def Obligations.LeverChanges : Prop :=
  ∀ (s : State) (i : SlotId) (closed : Bool),
    let sl := s.slot i
    let moved : Slot := { sl with lines := { sl.lines with lever := ⟨closed, closed, 0⟩ } }
    let lockOp := ∃ o ∈ sl.operation, o.kind = .lock
    let post := [(some i, EventKind.lever)]
    sl.lines.lever.held ≠ closed →
    (sl.hardware.enabled = true → closed = false → sl.power.powered = true →
      exec (.leverChange i closed) s =
        .next ((s.afterRelease i).becomes i (moved.faulted .leverOpen s.part.uptime)
          (sl.endPosts i ++ [(some i, .fault)] ++ post)).finish) ∧
    (sl.hardware.enabled = true → closed = false → sl.power = .vacant ∨ sl.power = .idle → lockOp →
      exec (.leverChange i closed) s =
        .next (s.becomes i { moved.ended .leverOpen s.part.uptime with lockTimer := none }
          ((some i, .opDone) :: post)).finish) ∧
    (sl.hardware.enabled = true → closed = false → sl.power.powered = false →
      ¬((sl.power = .vacant ∨ sl.power = .idle) ∧ lockOp) →
      exec (.leverChange i closed) s = .next (s.becomes i moved post).finish) ∧
    (sl.hardware.enabled = true → closed = true → sl.power = .waiting →
      exec (.leverChange i closed) s =
        .next (({ s with
            admission.passDue := s.admission.passDue ||
              (!sl.hardware.lockFitted || sl.lines.lockSense.held) } : State).becomes i moved post).finish) ∧
    (sl.hardware.enabled = true → closed = true → sl.power ≠ .waiting →
      exec (.leverChange i closed) s = .next (s.becomesOrStarts i moved post).finish) ∧
    (sl.hardware.enabled = false → exec (.leverChange i closed) s = .next (s.becomes i moved []).finish)

/-- A press posts BUTTON in an enabled slot (R116); under TOGGLE, outside VACANT and FAULTED, it also starts a hold-off
window of the part's hold-off time, or cancels the one that runs (R117). In a disabled slot it changes the line alone
(R128). A press acts whatever the debounced value was (log 5), and the line stands pressed with a filter count of 0 (log
4). -/
def Obligations.ButtonPress : Prop :=
  ∀ (s : State) (i : SlotId),
    let sl := s.slot i
    let pressed : Slot := { sl with lines := { sl.lines with button := ⟨true, true, 0⟩ } }
    (sl.hardware.enabled = true → sl.buttonPolicy = .eventOnly ∨ sl.power = .vacant ∨ sl.power = .faulted →
      exec (.buttonPress i) s = .next (s.becomes i pressed [(some i, .button)]).finish) ∧
    (sl.hardware.enabled = true → sl.buttonPolicy = .toggle → sl.power ≠ .vacant → sl.power ≠ .faulted →
      exec (.buttonPress i) s =
        .next (s.becomes i
          { pressed with holdOff := if sl.holdOff = none then some (s.holdOffTime * 1000) else none }
          [(some i, .button)]).finish) ∧
    (sl.hardware.enabled = false → exec (.buttonPress i) s = .next (s.becomes i pressed []).finish)

/-- The expiry of a hold-off window ends the window and acts on the state it finds: in IDLE it asks for a power-on with
origin BUTTON, which joins the queue or is recorded REFUSED with the failing status and OP_DONE (R24, R49); in WAITING it
cancels, in AUX_RAMP to READY_WAIT it aborts, in ON it starts a drain with origin BUTTON (R69); elsewhere nothing (R118).
The due marks of the slot go with the cut (log 12). -/
def Obligations.HoldOffExpires : Prop :=
  ∀ (s : State) (i : SlotId),
    let sl := s.slot i
    let now := s.part.uptime
    let expired : Slot := { sl with holdOff := none }
    let p := s.profiles.get sl.profileIndex
    sl.holdOff = some 0 →
    (sl.power = .idle → sl.mayPowerOn →
      exec (.holdOffExpiry i) s =
        .next ((s.afterJoin i .button false).becomes i (expired.joined .button s.part.ticketCounter now) []).finish) ∧
    (sl.power = .idle → ¬sl.mayPowerOn →
      let status : Status :=
        if sl.hardware.enabled = false then .disabled
        else if sl.lines.present.held = false then .noModule
        else if sl.lines.lever.held = false then .leverOpen
        else if sl.hardware.lockFitted = true ∧ sl.lines.lockSense.held = false then .notLocked
        else .busy
      exec (.holdOffExpiry i) s =
        .next (s.becomes i
          { expired with lastOutcome := some ⟨.powerOn, 0, .button, .refused, some status, now⟩ }
          [(some i, .opDone)]).finish) ∧
    (sl.power = .waiting →
      exec (.holdOffExpiry i) s =
        .next (({ s with
            admission.queue := s.admission.queue.filter fun e => decide (e.slot ≠ i)
            admission.passDue := true } : State).becomes i { expired.ended .cancelled now with power := .idle }
          (sl.endPosts i)).finish) ∧
    (sl.power ∈ [.auxRamp, .mainRamp, .settle, .readyWait] →
      exec (.holdOffExpiry i) s =
        .next ((s.afterRelease i).becomes i ((expired.off .idle).ended .aborted now) (sl.endPosts i)).finish) ∧
    (sl.power = .on →
      exec (.holdOffExpiry i) s =
        .next (({ s with part.ticketCounter := ticketAfter s.part.ticketCounter } : State).becomes i
          { expired with
            power := .drain, autoPending := false
            operation := some ⟨.powerOff, s.part.ticketCounter, .button, now⟩
            stageTimer := timeoutMs p.graceCode, readyRequired := p.readyRequired
            endDue := if p.readyRequired then !sl.lines.ready.held else decide (p.graceCode = 15) } []).finish) ∧
    (sl.power = .drain ∨ sl.power = .vacant ∨ sl.power = .faulted →
      exec (.holdOffExpiry i) s = .next (s.becomes i expired []).finish)

/-- A change of the lock sense in an enabled slot with a lock fitted: with no lock operation in flight it posts LOCK and,
on becoming engaged, makes a pass due for a WAITING slot that is now seated and the auto-start attempt in IDLE (R123);
during an operation the target position ends it DONE, a LOCK followed by the auto-start attempt, and the other position
does nothing (R126). Elsewhere the line changes and nothing else. The line stands at its new value with a filter count of
0 (log 4). -/
def Obligations.LockSenseChanges : Prop :=
  ∀ (s : State) (i : SlotId) (engaged : Bool),
    let sl := s.slot i
    let moved : Slot := { sl with lines := { sl.lines with lockSense := ⟨engaged, engaged, 0⟩ } }
    let ended : Slot := { moved.ended .done s.part.uptime with lockTimer := none }
    let acts := sl.hardware.enabled = true ∧ sl.hardware.lockFitted = true
    let lockOp := ∃ o ∈ sl.operation, o.kind = .lock ∨ o.kind = .unlock
    sl.lines.lockSense.held ≠ engaged →
    (acts → ¬lockOp → sl.power = .waiting → engaged = true → sl.lines.lever.held = true →
      exec (.lockSenseChange i engaged) s =
        .next (({ s with admission.passDue := true } : State).becomes i moved [(some i, .lock)]).finish) ∧
    (acts → ¬lockOp → sl.power ≠ .waiting → engaged = true →
      exec (.lockSenseChange i engaged) s = .next (s.becomesOrStarts i moved [(some i, .lock)]).finish) ∧
    (acts → ¬lockOp → engaged = false ∨ (sl.power = .waiting ∧ sl.lines.lever.held = false) →
      exec (.lockSenseChange i engaged) s = .next (s.becomes i moved [(some i, .lock)]).finish) ∧
    (∀ o ∈ sl.operation, acts → o.kind = .lock → engaged = true →
      exec (.lockSenseChange i engaged) s = .next (s.becomesOrStarts i ended [(some i, .opDone)]).finish) ∧
    (∀ o ∈ sl.operation, acts → o.kind = .unlock → engaged = false →
      exec (.lockSenseChange i engaged) s = .next (s.becomes i ended [(some i, .opDone)]).finish) ∧
    (∀ o ∈ sl.operation, acts → (o.kind = .lock ∧ engaged = false) ∨ (o.kind = .unlock ∧ engaged = true) →
      exec (.lockSenseChange i engaged) s = .next (s.becomes i moved []).finish) ∧
    (¬acts → exec (.lockSenseChange i engaged) s = .next (s.becomes i moved []).finish)

/-- The lock deadline ends a lock operation LOCK_TIMEOUT; an end due at once ends the operation that made it due, known by its
ticket, DONE while the sense still shows its target, a LOCK followed by the auto-start attempt; otherwise the due end has no
effect (R126). The drive is NONE after each ending (R123). -/
def Obligations.LockOperationsEnd : Prop :=
  ∀ (s : State) (i : SlotId),
    let sl := s.slot i
    let taken : Slot := { sl with lockEndDue := none }
    let ended : Slot := { taken.ended .done s.part.uptime with lockTimer := none }
    let post := [(some i, EventKind.opDone)]
    (∀ o ∈ sl.operation, o.kind = .lock ∨ o.kind = .unlock → sl.lockTimer = some 0 →
      ∃ t, exec (.lockDeadlineExpiry i) s = .next t ∧ (t.slot i).out.lockDrive = .none ∧
        t = (s.becomes i { sl.ended .lockTimeout s.part.uptime with lockTimer := none } post).finish) ∧
    (∀ o ∈ sl.operation, o.kind = .lock → sl.lockEndDue = some o.ticket → sl.lines.lockSense.held = true →
      exec (.lockDueEnd i) s = .next (s.becomesOrStarts i ended post).finish) ∧
    (∀ o ∈ sl.operation, o.kind = .unlock → sl.lockEndDue = some o.ticket → sl.lines.lockSense.held = false →
      exec (.lockDueEnd i) s = .next (s.becomes i ended post).finish) ∧
    (∀ ticket ∈ sl.lockEndDue,
      (∀ o ∈ sl.operation, ticket ≠ o.ticket ∨ (o.kind = .lock ∧ sl.lines.lockSense.held = false) ∨
        (o.kind = .unlock ∧ sl.lines.lockSense.held = true) ∨ o.kind = .powerOn ∨ o.kind = .powerOff) →
      exec (.lockDueEnd i) s = .next (s.becomes i taken []).finish)

/-! ### Blink patterns -/

/-- A pattern's phase is raised at each tick (R136). The raise that reaches the period is the boundary: phase 0, and the
pending values applied (R138); the raise that leaves the on-time turns the outputs (R132). That the tick leaves such a
phase as it is and sets the mark crossing, and that the raise is then a happening of its own, taken once, is the model's
choice (log 13). Every output then shows its mode. -/
def Obligations.BlinkPatternsRun : Prop :=
  ∀ (s : State) (p : Pattern),
    let b := s.pattern p
    let wraps := b.period ≤ b.phase + 1
    let leaves := b.phase + 1 < b.period ∧ b.phase + 1 = b.onTime
    let turned (v : BlinkPattern) : State :=
      { (s.setPattern p v) with
        slots := s.slots.map (Slot.driven (s.setPattern p v).slow.lit (s.setPattern p v).fast.lit) }
    (¬wraps → ¬leaves → s.tick.pattern p = { b with phase := b.phase + 1, crossing := false }) ∧
    (wraps ∨ leaves → s.tick.pattern p = { b with crossing := true }) ∧
    (.blinkPeriodBoundary p ∈ s.dueHappenings ↔ b.crossing = true ∧ wraps) ∧
    (.blinkOnTimeEnd p ∈ s.dueHappenings ↔ b.crossing = true ∧ leaves) ∧
    (b.crossing = true → wraps →
      exec (.blinkPeriodBoundary p) s =
        .next (turned
          { period := (b.waiting.map (·.1)).getD b.period, onTime := (b.waiting.map (·.2)).getD b.onTime, phase := 0
            waiting := none, crossing := false }).finish) ∧
    (b.crossing = true → leaves →
      exec (.blinkOnTimeEnd p) s = .next (turned { b with phase := b.phase + 1, crossing := false }).finish)

/-! ### Restarts -/

/-- A power-on reset sets every item of every block to the value its chapter gives, reads the rate from the straps, takes
the first sample of every line at uptime 0, and posts RESTARTED, which asserts ALERT (R182). What waits outside the part
is kept (log 25). The first sample of every line is part of the reset (log 14). -/
def Obligations.PowerOnReset : Prop :=
  ∀ (s : State) (rateA rateB : Bool), ∃ t, exec (.powerOnReset rateA rateB) s = .next t ∧
    t.part =
      { uptime := 0, ticketCounter := 1, frozen := false, restartCause := .powerOn
        restartLine := ⟨s.part.restartLine.level, s.part.restartLine.level, 0⟩, restartAsk := .none
        rateA := rateA, rateB := rateB } ∧
    t.port =
      { linkRate := (match rateB, rateA with | false, false => 0 | false, true => 1 | true, false => 2 | true, true => 3)
        receiver := .hunt, gap := 0, rxHeld := false, requests := [], ready := [], sending := none, credit := 0
        framesAccepted := 0, checkFailures := 0, gapAborts := 0, lengthErrors := 0, droppedRejects := 0
        offerDue := false } ∧
    t.events =
      { pendingZero := EventKind.restarted.bit, notices := [⟨none, .restarted, 1, 0⟩], overflow := false
        announced := false, lostCount := 0, overflowStamp := none, noticeMask := 0x07FF
        alertMask := EventKind.fault.bit ||| EventKind.shed.bit ||| EventKind.restarted.bit, alert := true } ∧
    t.admission =
      { queue := [], positions := 2, inrushHeld := 0, gate := .opened, policy := .strict, bypassLimit := 4
        enqueueCounter := 0, admissionCounter := 0, passDue := false } ∧
    (t.budget.reserve = 0 ∧ t.budget.mode = .full ∧ t.budget.classDraws.toList = [250, 500, 1000, 2000] ∧
      t.budget.ceiling = 0 ∧ t.budget.committed = 0 ∧
      ∀ n, let level := (s.budget.supplies.get n).line.level
        t.budget.supplies.get n = ⟨⟨level, false, if level then 1 else 0⟩, 0, 0⟩) ∧
    (∀ k, t.profiles.get k = ⟨6, 7, 50, true, 11, 11⟩) ∧
    t.holdOffTime = 5 ∧ t.slow = ⟨1000, 500, 0, none, false⟩ ∧ t.fast = ⟨250, 125, 0, none, false⟩ ∧
    t.pending = s.pending ∧ t.wires = s.wires ∧ t.choices = s.choices ∧
    ∀ i,
      let l := (s.slot i).lines
      let counted (x : Line) : Line := ⟨x.level, false, if x.level then 1 else 0⟩
      let taken (x : Line) : Line := ⟨x.level, x.level, 0⟩
      t.slot i =
        { hardware := ⟨true, false, false⟩
          lines :=
            { present := counted l.present, lever := taken l.lever, button := taken l.button
              lockSense := taken l.lockSense, auxGood := counted l.auxGood, mainGood := counted l.mainGood
              ready := counted l.ready, fault := counted l.fault, class0 := l.class0, class1 := l.class1 }
          moduleClass := none, buttonPolicy := .eventOnly, autoStart := false, autoPending := false, holdOff := none
          power := .vacant, profileIndex := 0, readyRequired := true, stageTimer := none, endDue := false
          overcurrentDue := false, auxLostDue := false, mainLostDue := false, operation := none, lastOutcome := none
          lockTimer := none, lockEndDue := none, overrideDraw := none, commitment := none, priority := 3
          restoreAfterShed := false, lastFault := none, faultCount := 0, lamps := ⟨.off, true, .off, true⟩
          pendingSet := 0
          out :=
            { auxEn := false, mainEn := false, stop := true, lockDrive := .none, powerMode := .off, attnMode := .off
              pwrInd := false, attnInd := false } }

/-- A ride-through restart, by the line or by a requested restart, in a lawful state: the port starts anew, windows and
lock operations end, the queue is emptied, ramping and draining slots are cut without an outcome, slots in ON keep
everything, the events are emptied and RESTARTED posted, and all configuration is kept (R183 to R185). The line acts
whatever its debounced value was (log 5), and the mark of a space held on LINK_RX is kept (log 22). The line stands risen
with a filter count of 0 (log 4), and the due marks of a slot go with its cut (log 12). -/
def Obligations.RideThroughRestart : Prop :=
  ∀ (s s0 : State) (c : Instr) (cause : RestartCause), s.PowerLawful →
    (c = .restartLineRise ∧ cause = .restartLine ∧ s0 = { s with part.restartLine := ⟨true, true, 0⟩ }) ∨
      (c = .requestedRestart ∧ cause = .restartRequest ∧ s.part.restartAsk = .due true ∧ s0 = s) →
    ∃ t, exec c s = .next t ∧
      t.part = { s0.part with restartCause := cause, restartAsk := .none } ∧
      t.port =
        { linkRate := s.port.linkRate, receiver := .hunt, gap := 0, rxHeld := s.port.rxHeld, requests := []
          ready := [], sending := none, credit := 0, framesAccepted := 0, checkFailures := 0, gapAborts := 0
          lengthErrors := 0, droppedRejects := 0, offerDue := false } ∧
      t.events =
        { pendingZero := EventKind.restarted.bit, notices := [⟨none, .restarted, 1, s.part.uptime⟩], overflow := false
          announced := false, lostCount := 0, overflowStamp := none, noticeMask := 0x07FF
          alertMask := EventKind.fault.bit ||| EventKind.shed.bit ||| EventKind.restarted.bit, alert := true } ∧
      t.admission = { s.admission with queue := [], inrushHeld := 0, passDue := false } ∧
      t.budget =
        { s.budget with
          committed := ((allSlots.filter fun i => decide ((s.slot i).power = .on)).map fun i => (s.slot i).amount).sum } ∧
      { t with
        part := s.part, port := s.port, events := s.events, admission := s.admission, budget := s.budget
        slots := s.slots } = s ∧
      ∀ i,
        let sl := s.slot i
        let kept : Slot := { sl with holdOff := none, lockTimer := none, lockEndDue := none, pendingSet := 0 }
        t.slot i =
          (if sl.power.powered = true ∧ sl.power ≠ .on then { kept.off .idle with operation := none }
            else if sl.power = .waiting then { kept with power := .idle, operation := none }
            else kept.ended .discarded s.part.uptime).driven s.slow.lit s.fast.lit

/-- A full restart leaves every slot VACANT with everything at its defaults, presence counted afresh and the other filters
kept; hardware settings and capacities are kept while the frozen flag is set; GOOD, stamps, uptime, ticket and stamp
counters are kept; the ceiling follows, and RESTARTED is posted (R186). The mark of a space held on LINK_RX is kept (log
22); a slot kept disabled by the frozen flag is VACANT and its module unseen (log 20). The due marks of a slot go with its
cut (log 12). -/
def Obligations.FullRestart : Prop :=
  ∀ s : State, s.part.restartAsk = .due false →
    ∃ t, exec .requestedRestart s = .next t ∧
      t.part = { s.part with restartCause := .restartRequest, restartAsk := .none } ∧
      t.port =
        { linkRate := s.port.linkRate, receiver := .hunt, gap := 0, rxHeld := s.port.rxHeld, requests := []
          ready := [], sending := none, credit := 0, framesAccepted := 0, checkFailures := 0, gapAborts := 0
          lengthErrors := 0, droppedRejects := 0, offerDue := false } ∧
      t.events =
        { pendingZero := EventKind.restarted.bit, notices := [⟨none, .restarted, 1, s.part.uptime⟩], overflow := false
          announced := false, lostCount := 0, overflowStamp := none, noticeMask := 0x07FF
          alertMask := EventKind.fault.bit ||| EventKind.shed.bit ||| EventKind.restarted.bit, alert := true } ∧
      t.admission =
        { queue := [], positions := 2, inrushHeld := 0, gate := .opened, policy := .strict, bypassLimit := 4
          enqueueCounter := s.admission.enqueueCounter, admissionCounter := s.admission.admissionCounter
          passDue := false } ∧
      (t.budget.reserve = 0 ∧ t.budget.mode = .full ∧ t.budget.classDraws.toList = [250, 500, 1000, 2000] ∧
        t.budget.committed = 0 ∧
        t.budget.ceiling =
          (if s.part.frozen then
            (((List.finRange 4).filter fun n => (s.budget.supplies.get n).line.held).map
              fun n => (s.budget.supplies.get n).capacity).sum
          else 0) ∧
        ∀ n, let old := s.budget.supplies.get n
          t.budget.supplies.get n = { old with capacity := if s.part.frozen then old.capacity else 0 }) ∧
      (∀ k, t.profiles.get k = ⟨6, 7, 50, true, 11, 11⟩) ∧
      t.holdOffTime = 5 ∧ t.slow = ⟨1000, 500, 0, none, false⟩ ∧ t.fast = ⟨250, 125, 0, none, false⟩ ∧
      t.pending = s.pending ∧ t.wires = s.wires ∧ t.choices = s.choices ∧
      ∀ i,
        let sl := s.slot i
        t.slot i =
          { hardware := if s.part.frozen then sl.hardware else ⟨true, false, false⟩
            lines := { sl.lines with
              present := ⟨sl.lines.present.level, false, if sl.lines.present.level then 1 else 0⟩ }
            moduleClass := none, buttonPolicy := .eventOnly, autoStart := false, autoPending := false, holdOff := none
            power := .vacant, profileIndex := 0, readyRequired := true, stageTimer := none, endDue := false
            overcurrentDue := false, auxLostDue := false, mainLostDue := false, operation := none, lastOutcome := none
            lockTimer := none, lockEndDue := none, overrideDraw := none, commitment := none, priority := 3
            restoreAfterShed := false, lastFault := none, faultCount := 0, lamps := ⟨.off, true, .off, true⟩
            pendingSet := 0
            out :=
              { auxEn := false, mainEn := false, stop := true, lockDrive := .none, powerMode := .off, attnMode := .off
                pwrInd := false, attnInd := false } }

/-! ### Events, and the laws of every moment -/

/-- An occurrence puts its kind in the slot's pending set whatever the masks hold, and asserts ALERT exactly when some
pending set holds a kind in the alert mask (R141, R150). With the kind in the notice mask it raises the count of the
queued entry for its slot and kind, appends an entry, or is lost with the overflow fields recording it (R144, R145);
otherwise the notice queue and the overflow fields are untouched. An occurrence whose kind is in the notice mask makes an
offer due, carried by the mark port.offerDue (log 10). -/
def Obligations.Occurrences : Prop :=
  ∀ (s : State) (who : Option SlotId) (k : EventKind),
    let u := s.occur who k
    let matching (n : Notice) : Bool := decide (n.subject = who) && decide (n.kind = k)
    let masked : Events :=
      if s.events.notices.any matching then
        { s.events with
          notices := s.events.notices.map fun n =>
            if matching n then { n with count := min 255 (n.count + 1) } else n }
      else if s.events.notices.length < 32 then
        { s.events with notices := s.events.notices ++ [⟨who, k, 1, s.part.uptime⟩] }
      else
        { s.events with
          lostCount := min 255 (s.events.lostCount + 1), overflow := true
          overflowStamp := if s.events.overflow then s.events.overflowStamp else some s.part.uptime }
    u.pendingOf who = s.pendingOf who ||| BitVec.ofNat 16 (2 ^ (k.code - 1)) ∧
    (∀ w, w ≠ who → u.pendingOf w = s.pendingOf w) ∧
    (u.events.alert = true ↔ ∃ w, u.pendingOf w &&& s.events.alertMask ≠ 0) ∧
    { u.events with pendingZero := s.events.pendingZero, alert := s.events.alert } =
      (if s.events.noticeMask.getLsbD (k.code - 1) then masked else s.events) ∧
    u.port = { s.port with offerDue := s.port.offerDue || s.events.noticeMask.getLsbD (k.code - 1) } ∧
    { u with slots := s.slots, events := s.events, port := s.port } = s

/-- The laws of every moment hold at State.reset: the state right after a power-on reset with every input pin deasserted
and the straps at 0 (the model's choice, log 8). -/
def Obligations.ResetIsLawful : Prop :=
  State.reset.OutputsFollow ∧ State.reset.slow.Lawful ∧ State.reset.fast.Lawful ∧ State.reset.PowerLawful ∧
    State.reset.PortLawful ∧ State.reset.LineBusy ∧ State.reset.EventsLawful ∧ State.reset.InRange

/-- Every step keeps the display: each slot's AUX_EN, MAIN_EN, STOP, lock drive and indicators show what its record and the
patterns call for (R44, R123, R132), which is what the tables of R44, R133 and R134 give; and each pattern's values stay within
their ranges (R136). -/
def Obligations.DisplayIsKept : Prop :=
  (∀ s s' : State, s.OutputsFollow → s.slow.Lawful → s.fast.Lawful → step s = .next s' →
    s'.OutputsFollow ∧ s'.slow.Lawful ∧ s'.fast.Lawful) ∧
  (∀ (sl : Slot) (slowLit fastLit : Bool),
    let o := sl.outputs slowLit fastLit
    let lit (m : IndMode) : Bool :=
      match m with | .off => false | .on => true | .blinkSlow => slowLit | .blinkFast => fastLit
    (o.auxEn = true ↔ sl.power ∈ [.auxRamp, .mainRamp, .settle, .readyWait, .on, .drain]) ∧
    (o.mainEn = true ↔ sl.power ∈ [.mainRamp, .settle, .readyWait, .on, .drain]) ∧
    (o.stop = false ↔ sl.power ∈ [.readyWait, .on]) ∧
    o.powerMode =
      (if sl.lamps.powerAuto = false then sl.lamps.powerHost
        else if sl.power ∈ [.vacant, .idle, .faulted] then .off
        else if sl.power = .waiting then .blinkSlow
        else if sl.power = .on then .on
        else .blinkFast) ∧
    o.attnMode =
      (if sl.holdOff.isSome then .blinkFast
        else if sl.power = .faulted ∧ sl.lamps.attnAuto = true then .on
        else sl.lamps.attnHost) ∧
    o.pwrInd = lit o.powerMode ∧ o.attnInd = lit o.attnMode)

/-- Every step keeps the laws of power: each slot holds a commitment exactly while its rails are up and an inrush position
exactly while it ramps, with the operation its state calls for (R11, R30, R46); the committed total is the sum of the
commitments and never above the ceiling (R12); at most K positions are held (R30); and the queue holds each WAITING slot
once, in order (R25, R26). That a slot without power holds no OVERCURRENT or RAIL_LOST due mark is the model's choice (log
12). -/
def Obligations.PowerIsKept : Prop :=
  ∀ s s' : State, s.PowerLawful → step s = .next s' → s'.PowerLawful

/-- Every step keeps the laws of the port: at most 8 requests with tags not 0 and pairwise different, the reply list
exactly the executed ones, at most two rejects, the credit within 0 to 64 (R151, R160, R161); a RESTART's OK reply waits
or is sent only until its restart is taken (R162); and the line is never left idle while a frame it may send waits (R163).
No offer to the arbiter is owed between steps (log 10), and no frame starts while a requested restart is due (log 11). -/
def Obligations.PortIsKept : Prop :=
  ∀ s s' : State, s.PortLawful → s.LineBusy → step s = .next s' → s'.PortLawful ∧ s'.LineBusy

/-- Every step keeps the laws of the event unit: ALERT exactly when some pending set holds a kind in the alert mask (R150); at
most 32 notices and one for a slot and kind (R143); overflow fields only within an episode (R145). -/
def Obligations.EventsAreKept : Prop :=
  ∀ s s' : State, s.EventsLawful → step s = .next s' → s'.EventsLawful

/-- Every step keeps these quantities within the ranges where the manual defines them: supply capacities, reserve, ceiling and
class draws (R1, R3, R4, R8); the admission settings and counters (R26, R34, R39) and the fields of the queue entries (R25);
the profiles (R50), the hold-off time (R117), the ticket counter (R47); the rate code, the gap count and the link counters
(R156, R158, R166); and of every slot the priority, the fault count, the draws and stamps, the running counts, and the tickets
of the operation in flight (R46), the last outcome (R49), the last fault (R91) and the lock end that is due (R126). -/
def Obligations.RangesAreKept : Prop :=
  ∀ s s' : State, s.InRange → step s = .next s' → s'.InRange
end

