-- ==== Sys2Proof/Laws/State.lean ====
section
/-! SUPPORT. One lemma for each field of the state and each update that leaves it alone, all by computation, so that no
proof unfolds a record update. -/
namespace Sys2Proof.Machine

/-! ### Writing a slot record -/

@[simp] theorem State.setSlot_part (s : State) (i : SlotId) (sl : Slot) : (s.setSlot i sl).part = s.part := rfl
@[simp] theorem State.setSlot_budget (s : State) (i : SlotId) (sl : Slot) : (s.setSlot i sl).budget = s.budget := rfl
@[simp] theorem State.setSlot_admission (s : State) (i : SlotId) (sl : Slot) : (s.setSlot i sl).admission = s.admission := rfl
@[simp] theorem State.setSlot_profiles (s : State) (i : SlotId) (sl : Slot) : (s.setSlot i sl).profiles = s.profiles := rfl
@[simp] theorem State.setSlot_holdOffTime (s : State) (i : SlotId) (sl : Slot) : (s.setSlot i sl).holdOffTime = s.holdOffTime := rfl
@[simp] theorem State.setSlot_slow (s : State) (i : SlotId) (sl : Slot) : (s.setSlot i sl).slow = s.slow := rfl
@[simp] theorem State.setSlot_fast (s : State) (i : SlotId) (sl : Slot) : (s.setSlot i sl).fast = s.fast := rfl
@[simp] theorem State.setSlot_events (s : State) (i : SlotId) (sl : Slot) : (s.setSlot i sl).events = s.events := rfl
@[simp] theorem State.setSlot_port (s : State) (i : SlotId) (sl : Slot) : (s.setSlot i sl).port = s.port := rfl
@[simp] theorem State.setSlot_pending (s : State) (i : SlotId) (sl : Slot) : (s.setSlot i sl).pending = s.pending := rfl
@[simp] theorem State.setSlot_wires (s : State) (i : SlotId) (sl : Slot) : (s.setSlot i sl).wires = s.wires := rfl
@[simp] theorem State.setSlot_choices (s : State) (i : SlotId) (sl : Slot) : (s.setSlot i sl).choices = s.choices := rfl

/-! ### Changing a slot record -/

@[simp] theorem State.upd_part (s : State) (i : SlotId) (f : Slot → Slot) : (s.upd i f).part = s.part := rfl
@[simp] theorem State.upd_budget (s : State) (i : SlotId) (f : Slot → Slot) : (s.upd i f).budget = s.budget := rfl
@[simp] theorem State.upd_admission (s : State) (i : SlotId) (f : Slot → Slot) : (s.upd i f).admission = s.admission := rfl
@[simp] theorem State.upd_profiles (s : State) (i : SlotId) (f : Slot → Slot) : (s.upd i f).profiles = s.profiles := rfl
@[simp] theorem State.upd_holdOffTime (s : State) (i : SlotId) (f : Slot → Slot) : (s.upd i f).holdOffTime = s.holdOffTime := rfl
@[simp] theorem State.upd_slow (s : State) (i : SlotId) (f : Slot → Slot) : (s.upd i f).slow = s.slow := rfl
@[simp] theorem State.upd_fast (s : State) (i : SlotId) (f : Slot → Slot) : (s.upd i f).fast = s.fast := rfl
@[simp] theorem State.upd_events (s : State) (i : SlotId) (f : Slot → Slot) : (s.upd i f).events = s.events := rfl
@[simp] theorem State.upd_port (s : State) (i : SlotId) (f : Slot → Slot) : (s.upd i f).port = s.port := rfl
@[simp] theorem State.upd_pending (s : State) (i : SlotId) (f : Slot → Slot) : (s.upd i f).pending = s.pending := rfl
@[simp] theorem State.upd_wires (s : State) (i : SlotId) (f : Slot → Slot) : (s.upd i f).wires = s.wires := rfl
@[simp] theorem State.upd_choices (s : State) (i : SlotId) (f : Slot → Slot) : (s.upd i f).choices = s.choices := rfl

@[simp] theorem State.updLines_part (s : State) (i : SlotId) (f : BayLines → BayLines) : (s.updLines i f).part = s.part := rfl
@[simp] theorem State.updLines_budget (s : State) (i : SlotId) (f : BayLines → BayLines) : (s.updLines i f).budget = s.budget := rfl
@[simp] theorem State.updLines_admission (s : State) (i : SlotId) (f : BayLines → BayLines) : (s.updLines i f).admission = s.admission := rfl
@[simp] theorem State.updLines_profiles (s : State) (i : SlotId) (f : BayLines → BayLines) : (s.updLines i f).profiles = s.profiles := rfl
@[simp] theorem State.updLines_holdOffTime (s : State) (i : SlotId) (f : BayLines → BayLines) : (s.updLines i f).holdOffTime = s.holdOffTime := rfl
@[simp] theorem State.updLines_slow (s : State) (i : SlotId) (f : BayLines → BayLines) : (s.updLines i f).slow = s.slow := rfl
@[simp] theorem State.updLines_fast (s : State) (i : SlotId) (f : BayLines → BayLines) : (s.updLines i f).fast = s.fast := rfl
@[simp] theorem State.updLines_events (s : State) (i : SlotId) (f : BayLines → BayLines) : (s.updLines i f).events = s.events := rfl
@[simp] theorem State.updLines_port (s : State) (i : SlotId) (f : BayLines → BayLines) : (s.updLines i f).port = s.port := rfl
@[simp] theorem State.updLines_pending (s : State) (i : SlotId) (f : BayLines → BayLines) : (s.updLines i f).pending = s.pending := rfl
@[simp] theorem State.updLines_wires (s : State) (i : SlotId) (f : BayLines → BayLines) : (s.updLines i f).wires = s.wires := rfl
@[simp] theorem State.updLines_choices (s : State) (i : SlotId) (f : BayLines → BayLines) : (s.updLines i f).choices = s.choices := rfl

@[simp] theorem State.cancelHoldOff_part (s : State) (i : SlotId) : (s.cancelHoldOff i).part = s.part := rfl
@[simp] theorem State.cancelHoldOff_budget (s : State) (i : SlotId) : (s.cancelHoldOff i).budget = s.budget := rfl
@[simp] theorem State.cancelHoldOff_admission (s : State) (i : SlotId) : (s.cancelHoldOff i).admission = s.admission := rfl
@[simp] theorem State.cancelHoldOff_profiles (s : State) (i : SlotId) : (s.cancelHoldOff i).profiles = s.profiles := rfl
@[simp] theorem State.cancelHoldOff_holdOffTime (s : State) (i : SlotId) : (s.cancelHoldOff i).holdOffTime = s.holdOffTime := rfl
@[simp] theorem State.cancelHoldOff_slow (s : State) (i : SlotId) : (s.cancelHoldOff i).slow = s.slow := rfl
@[simp] theorem State.cancelHoldOff_fast (s : State) (i : SlotId) : (s.cancelHoldOff i).fast = s.fast := rfl
@[simp] theorem State.cancelHoldOff_events (s : State) (i : SlotId) : (s.cancelHoldOff i).events = s.events := rfl
@[simp] theorem State.cancelHoldOff_port (s : State) (i : SlotId) : (s.cancelHoldOff i).port = s.port := rfl
@[simp] theorem State.cancelHoldOff_pending (s : State) (i : SlotId) : (s.cancelHoldOff i).pending = s.pending := rfl
@[simp] theorem State.cancelHoldOff_wires (s : State) (i : SlotId) : (s.cancelHoldOff i).wires = s.wires := rfl
@[simp] theorem State.cancelHoldOff_choices (s : State) (i : SlotId) : (s.cancelHoldOff i).choices = s.choices := rfl

/-! ### Part-wide updates -/

@[simp] theorem State.redrive_part (s : State) : (s.redrive).part = s.part := rfl
@[simp] theorem State.redrive_budget (s : State) : (s.redrive).budget = s.budget := rfl
@[simp] theorem State.redrive_admission (s : State) : (s.redrive).admission = s.admission := rfl
@[simp] theorem State.redrive_profiles (s : State) : (s.redrive).profiles = s.profiles := rfl
@[simp] theorem State.redrive_holdOffTime (s : State) : (s.redrive).holdOffTime = s.holdOffTime := rfl
@[simp] theorem State.redrive_slow (s : State) : (s.redrive).slow = s.slow := rfl
@[simp] theorem State.redrive_fast (s : State) : (s.redrive).fast = s.fast := rfl
@[simp] theorem State.redrive_events (s : State) : (s.redrive).events = s.events := rfl
@[simp] theorem State.redrive_port (s : State) : (s.redrive).port = s.port := rfl
@[simp] theorem State.redrive_pending (s : State) : (s.redrive).pending = s.pending := rfl
@[simp] theorem State.redrive_wires (s : State) : (s.redrive).wires = s.wires := rfl
@[simp] theorem State.redrive_choices (s : State) : (s.redrive).choices = s.choices := rfl

@[simp] theorem State.realert_part (s : State) : (s.realert).part = s.part := rfl
@[simp] theorem State.realert_budget (s : State) : (s.realert).budget = s.budget := rfl
@[simp] theorem State.realert_admission (s : State) : (s.realert).admission = s.admission := rfl
@[simp] theorem State.realert_profiles (s : State) : (s.realert).profiles = s.profiles := rfl
@[simp] theorem State.realert_slots (s : State) : (s.realert).slots = s.slots := rfl
@[simp] theorem State.realert_holdOffTime (s : State) : (s.realert).holdOffTime = s.holdOffTime := rfl
@[simp] theorem State.realert_slow (s : State) : (s.realert).slow = s.slow := rfl
@[simp] theorem State.realert_fast (s : State) : (s.realert).fast = s.fast := rfl
@[simp] theorem State.realert_port (s : State) : (s.realert).port = s.port := rfl
@[simp] theorem State.realert_pending (s : State) : (s.realert).pending = s.pending := rfl
@[simp] theorem State.realert_wires (s : State) : (s.realert).wires = s.wires := rfl
@[simp] theorem State.realert_choices (s : State) : (s.realert).choices = s.choices := rfl

@[simp] theorem State.advanceTicket_budget (s : State) : (s.advanceTicket).budget = s.budget := rfl
@[simp] theorem State.advanceTicket_admission (s : State) : (s.advanceTicket).admission = s.admission := rfl
@[simp] theorem State.advanceTicket_profiles (s : State) : (s.advanceTicket).profiles = s.profiles := rfl
@[simp] theorem State.advanceTicket_slots (s : State) : (s.advanceTicket).slots = s.slots := rfl
@[simp] theorem State.advanceTicket_holdOffTime (s : State) : (s.advanceTicket).holdOffTime = s.holdOffTime := rfl
@[simp] theorem State.advanceTicket_slow (s : State) : (s.advanceTicket).slow = s.slow := rfl
@[simp] theorem State.advanceTicket_fast (s : State) : (s.advanceTicket).fast = s.fast := rfl
@[simp] theorem State.advanceTicket_events (s : State) : (s.advanceTicket).events = s.events := rfl
@[simp] theorem State.advanceTicket_port (s : State) : (s.advanceTicket).port = s.port := rfl
@[simp] theorem State.advanceTicket_pending (s : State) : (s.advanceTicket).pending = s.pending := rfl
@[simp] theorem State.advanceTicket_wires (s : State) : (s.advanceTicket).wires = s.wires := rfl
@[simp] theorem State.advanceTicket_choices (s : State) : (s.advanceTicket).choices = s.choices := rfl

@[simp] theorem State.markPass_part (s : State) : (s.markPass).part = s.part := rfl
@[simp] theorem State.markPass_budget (s : State) : (s.markPass).budget = s.budget := rfl
@[simp] theorem State.markPass_profiles (s : State) : (s.markPass).profiles = s.profiles := rfl
@[simp] theorem State.markPass_slots (s : State) : (s.markPass).slots = s.slots := rfl
@[simp] theorem State.markPass_holdOffTime (s : State) : (s.markPass).holdOffTime = s.holdOffTime := rfl
@[simp] theorem State.markPass_slow (s : State) : (s.markPass).slow = s.slow := rfl
@[simp] theorem State.markPass_fast (s : State) : (s.markPass).fast = s.fast := rfl
@[simp] theorem State.markPass_events (s : State) : (s.markPass).events = s.events := rfl
@[simp] theorem State.markPass_port (s : State) : (s.markPass).port = s.port := rfl
@[simp] theorem State.markPass_pending (s : State) : (s.markPass).pending = s.pending := rfl
@[simp] theorem State.markPass_wires (s : State) : (s.markPass).wires = s.wires := rfl
@[simp] theorem State.markPass_choices (s : State) : (s.markPass).choices = s.choices := rfl

@[simp] theorem State.leaveQueue_part (s : State) (i : SlotId) : (s.leaveQueue i).part = s.part := rfl
@[simp] theorem State.leaveQueue_budget (s : State) (i : SlotId) : (s.leaveQueue i).budget = s.budget := rfl
@[simp] theorem State.leaveQueue_profiles (s : State) (i : SlotId) : (s.leaveQueue i).profiles = s.profiles := rfl
@[simp] theorem State.leaveQueue_slots (s : State) (i : SlotId) : (s.leaveQueue i).slots = s.slots := rfl
@[simp] theorem State.leaveQueue_holdOffTime (s : State) (i : SlotId) : (s.leaveQueue i).holdOffTime = s.holdOffTime := rfl
@[simp] theorem State.leaveQueue_slow (s : State) (i : SlotId) : (s.leaveQueue i).slow = s.slow := rfl
@[simp] theorem State.leaveQueue_fast (s : State) (i : SlotId) : (s.leaveQueue i).fast = s.fast := rfl
@[simp] theorem State.leaveQueue_events (s : State) (i : SlotId) : (s.leaveQueue i).events = s.events := rfl
@[simp] theorem State.leaveQueue_port (s : State) (i : SlotId) : (s.leaveQueue i).port = s.port := rfl
@[simp] theorem State.leaveQueue_pending (s : State) (i : SlotId) : (s.leaveQueue i).pending = s.pending := rfl
@[simp] theorem State.leaveQueue_wires (s : State) (i : SlotId) : (s.leaveQueue i).wires = s.wires := rfl
@[simp] theorem State.leaveQueue_choices (s : State) (i : SlotId) : (s.leaveQueue i).choices = s.choices := rfl

@[simp] theorem State.clearMarks_part (s : State) : (s.clearMarks).part = s.part := rfl
@[simp] theorem State.clearMarks_budget (s : State) : (s.clearMarks).budget = s.budget := rfl
@[simp] theorem State.clearMarks_profiles (s : State) : (s.clearMarks).profiles = s.profiles := rfl
@[simp] theorem State.clearMarks_slots (s : State) : (s.clearMarks).slots = s.slots := rfl
@[simp] theorem State.clearMarks_holdOffTime (s : State) : (s.clearMarks).holdOffTime = s.holdOffTime := rfl
@[simp] theorem State.clearMarks_slow (s : State) : (s.clearMarks).slow = s.slow := rfl
@[simp] theorem State.clearMarks_fast (s : State) : (s.clearMarks).fast = s.fast := rfl
@[simp] theorem State.clearMarks_events (s : State) : (s.clearMarks).events = s.events := rfl
@[simp] theorem State.clearMarks_port (s : State) : (s.clearMarks).port = s.port := rfl
@[simp] theorem State.clearMarks_pending (s : State) : (s.clearMarks).pending = s.pending := rfl
@[simp] theorem State.clearMarks_wires (s : State) : (s.clearMarks).wires = s.wires := rfl
@[simp] theorem State.clearMarks_choices (s : State) : (s.clearMarks).choices = s.choices := rfl

@[simp] theorem State.answer_part (s : State) (tag : Byte) (reply : List Byte) : (s.answer tag reply).part = s.part := rfl
@[simp] theorem State.answer_budget (s : State) (tag : Byte) (reply : List Byte) : (s.answer tag reply).budget = s.budget := rfl
@[simp] theorem State.answer_admission (s : State) (tag : Byte) (reply : List Byte) : (s.answer tag reply).admission = s.admission := rfl
@[simp] theorem State.answer_profiles (s : State) (tag : Byte) (reply : List Byte) : (s.answer tag reply).profiles = s.profiles := rfl
@[simp] theorem State.answer_slots (s : State) (tag : Byte) (reply : List Byte) : (s.answer tag reply).slots = s.slots := rfl
@[simp] theorem State.answer_holdOffTime (s : State) (tag : Byte) (reply : List Byte) : (s.answer tag reply).holdOffTime = s.holdOffTime := rfl
@[simp] theorem State.answer_slow (s : State) (tag : Byte) (reply : List Byte) : (s.answer tag reply).slow = s.slow := rfl
@[simp] theorem State.answer_fast (s : State) (tag : Byte) (reply : List Byte) : (s.answer tag reply).fast = s.fast := rfl
@[simp] theorem State.answer_events (s : State) (tag : Byte) (reply : List Byte) : (s.answer tag reply).events = s.events := rfl
@[simp] theorem State.answer_pending (s : State) (tag : Byte) (reply : List Byte) : (s.answer tag reply).pending = s.pending := rfl
@[simp] theorem State.answer_wires (s : State) (tag : Byte) (reply : List Byte) : (s.answer tag reply).wires = s.wires := rfl
@[simp] theorem State.answer_choices (s : State) (tag : Byte) (reply : List Byte) : (s.answer tag reply).choices = s.choices := rfl

@[simp] theorem State.startOperation_budget (s : State) (i : SlotId) (k : OpKind) (o : Origin) : (s.startOperation i k o).budget = s.budget := rfl
@[simp] theorem State.startOperation_admission (s : State) (i : SlotId) (k : OpKind) (o : Origin) : (s.startOperation i k o).admission = s.admission := rfl
@[simp] theorem State.startOperation_profiles (s : State) (i : SlotId) (k : OpKind) (o : Origin) : (s.startOperation i k o).profiles = s.profiles := rfl
@[simp] theorem State.startOperation_holdOffTime (s : State) (i : SlotId) (k : OpKind) (o : Origin) : (s.startOperation i k o).holdOffTime = s.holdOffTime := rfl
@[simp] theorem State.startOperation_slow (s : State) (i : SlotId) (k : OpKind) (o : Origin) : (s.startOperation i k o).slow = s.slow := rfl
@[simp] theorem State.startOperation_fast (s : State) (i : SlotId) (k : OpKind) (o : Origin) : (s.startOperation i k o).fast = s.fast := rfl
@[simp] theorem State.startOperation_events (s : State) (i : SlotId) (k : OpKind) (o : Origin) : (s.startOperation i k o).events = s.events := rfl
@[simp] theorem State.startOperation_port (s : State) (i : SlotId) (k : OpKind) (o : Origin) : (s.startOperation i k o).port = s.port := rfl
@[simp] theorem State.startOperation_pending (s : State) (i : SlotId) (k : OpKind) (o : Origin) : (s.startOperation i k o).pending = s.pending := rfl
@[simp] theorem State.startOperation_wires (s : State) (i : SlotId) (k : OpKind) (o : Origin) : (s.startOperation i k o).wires = s.wires := rfl
@[simp] theorem State.startOperation_choices (s : State) (i : SlotId) (k : OpKind) (o : Origin) : (s.startOperation i k o).choices = s.choices := rfl

/-! ### A slot record and its outputs -/

@[simp] theorem Slot.driven_hardware (a b : Bool) (sl : Slot) : (sl.driven a b).hardware = sl.hardware := rfl
@[simp] theorem Slot.driven_lines (a b : Bool) (sl : Slot) : (sl.driven a b).lines = sl.lines := rfl
@[simp] theorem Slot.driven_moduleClass (a b : Bool) (sl : Slot) : (sl.driven a b).moduleClass = sl.moduleClass := rfl
@[simp] theorem Slot.driven_buttonPolicy (a b : Bool) (sl : Slot) : (sl.driven a b).buttonPolicy = sl.buttonPolicy := rfl
@[simp] theorem Slot.driven_autoStart (a b : Bool) (sl : Slot) : (sl.driven a b).autoStart = sl.autoStart := rfl
@[simp] theorem Slot.driven_autoPending (a b : Bool) (sl : Slot) : (sl.driven a b).autoPending = sl.autoPending := rfl
@[simp] theorem Slot.driven_holdOff (a b : Bool) (sl : Slot) : (sl.driven a b).holdOff = sl.holdOff := rfl
@[simp] theorem Slot.driven_power (a b : Bool) (sl : Slot) : (sl.driven a b).power = sl.power := rfl
@[simp] theorem Slot.driven_profileIndex (a b : Bool) (sl : Slot) : (sl.driven a b).profileIndex = sl.profileIndex := rfl
@[simp] theorem Slot.driven_readyRequired (a b : Bool) (sl : Slot) : (sl.driven a b).readyRequired = sl.readyRequired := rfl
@[simp] theorem Slot.driven_stageTimer (a b : Bool) (sl : Slot) : (sl.driven a b).stageTimer = sl.stageTimer := rfl
@[simp] theorem Slot.driven_endDue (a b : Bool) (sl : Slot) : (sl.driven a b).endDue = sl.endDue := rfl
@[simp] theorem Slot.driven_overcurrentDue (a b : Bool) (sl : Slot) : (sl.driven a b).overcurrentDue = sl.overcurrentDue := rfl
@[simp] theorem Slot.driven_auxLostDue (a b : Bool) (sl : Slot) : (sl.driven a b).auxLostDue = sl.auxLostDue := rfl
@[simp] theorem Slot.driven_mainLostDue (a b : Bool) (sl : Slot) : (sl.driven a b).mainLostDue = sl.mainLostDue := rfl
@[simp] theorem Slot.driven_operation (a b : Bool) (sl : Slot) : (sl.driven a b).operation = sl.operation := rfl
@[simp] theorem Slot.driven_lastOutcome (a b : Bool) (sl : Slot) : (sl.driven a b).lastOutcome = sl.lastOutcome := rfl
@[simp] theorem Slot.driven_lockTimer (a b : Bool) (sl : Slot) : (sl.driven a b).lockTimer = sl.lockTimer := rfl
@[simp] theorem Slot.driven_lockEndDue (a b : Bool) (sl : Slot) : (sl.driven a b).lockEndDue = sl.lockEndDue := rfl
@[simp] theorem Slot.driven_overrideDraw (a b : Bool) (sl : Slot) : (sl.driven a b).overrideDraw = sl.overrideDraw := rfl
@[simp] theorem Slot.driven_commitment (a b : Bool) (sl : Slot) : (sl.driven a b).commitment = sl.commitment := rfl
@[simp] theorem Slot.driven_priority (a b : Bool) (sl : Slot) : (sl.driven a b).priority = sl.priority := rfl
@[simp] theorem Slot.driven_restoreAfterShed (a b : Bool) (sl : Slot) : (sl.driven a b).restoreAfterShed = sl.restoreAfterShed := rfl
@[simp] theorem Slot.driven_lastFault (a b : Bool) (sl : Slot) : (sl.driven a b).lastFault = sl.lastFault := rfl
@[simp] theorem Slot.driven_faultCount (a b : Bool) (sl : Slot) : (sl.driven a b).faultCount = sl.faultCount := rfl
@[simp] theorem Slot.driven_lamps (a b : Bool) (sl : Slot) : (sl.driven a b).lamps = sl.lamps := rfl
@[simp] theorem Slot.driven_pendingSet (a b : Bool) (sl : Slot) : (sl.driven a b).pendingSet = sl.pendingSet := rfl

/-- Outputs that have been driven follow the record they were driven from. -/
@[simp] theorem Slot.driven_out (a b : Bool) (sl : Slot) : (sl.driven a b).out = sl.outputs a b := rfl

/-- Driving the outputs twice is driving them once: they depend on no output. -/
@[simp] theorem Slot.driven_driven (a b c d : Bool) (sl : Slot) : (sl.driven a b).driven c d = sl.driven c d := rfl

@[simp] theorem Slot.outputs_driven (a b c d : Bool) (sl : Slot) : (sl.driven a b).outputs c d = sl.outputs c d := rfl

/-! ### Reading a slot record after a write -/

/-- Reading a slot record is indexing the vector of records. -/
theorem State.slot_eq_getElem (s : State) (i : SlotId) : s.slot i = s.slots[i.val] := rfl

/-- A slot reads as it was written, its outputs driven. -/
@[simp] theorem State.slot_setSlot_same (s : State) (i : SlotId) (sl : Slot) :
    (s.setSlot i sl).slot i = sl.driven s.slow.lit s.fast.lit := by
  simp [State.slot_eq_getElem, State.setSlot]

/-- A write of one slot leaves the others. -/
@[simp] theorem State.slot_setSlot_ne (s : State) {i j : SlotId} (sl : Slot) (h : j ≠ i) :
    (s.setSlot i sl).slot j = s.slot j := by
  have hv : i.val ≠ j.val := fun e => h (Fin.ext e.symm)
  simp [State.slot_eq_getElem, State.setSlot, Vector.getElem_set_ne, hv]

@[simp] theorem State.slot_upd_same (s : State) (i : SlotId) (f : Slot → Slot) :
    (s.upd i f).slot i = (f (s.slot i)).driven s.slow.lit s.fast.lit := by
  simp [State.upd]

@[simp] theorem State.slot_upd_ne (s : State) {i j : SlotId} (f : Slot → Slot) (h : j ≠ i) :
    (s.upd i f).slot j = s.slot j := by
  simp [State.upd, h]

@[simp] theorem State.slot_updLines_same (s : State) (i : SlotId) (f : BayLines → BayLines) :
    (s.updLines i f).slot i = ({ s.slot i with lines := f (s.slot i).lines } : Slot).driven s.slow.lit s.fast.lit := by
  simp [State.updLines]

@[simp] theorem State.slot_updLines_ne (s : State) {i j : SlotId} (f : BayLines → BayLines) (h : j ≠ i) :
    (s.updLines i f).slot j = s.slot j := by
  simp [State.updLines, h]

@[simp] theorem State.slot_realert (s : State) (i : SlotId) : s.realert.slot i = s.slot i := rfl

@[simp] theorem State.slot_markPass (s : State) (i : SlotId) : s.markPass.slot i = s.slot i := rfl

@[simp] theorem State.slot_advanceTicket (s : State) (i : SlotId) : s.advanceTicket.slot i = s.slot i := rfl

@[simp] theorem State.slot_answer (s : State) (tag : Byte) (reply : List Byte) (i : SlotId) :
    (s.answer tag reply).slot i = s.slot i := rfl

@[simp] theorem State.slot_leaveQueue (s : State) (i j : SlotId) : (s.leaveQueue i).slot j = s.slot j := rfl

/-- Two states with the same slots read alike. -/
theorem State.slot_eq_of_slots {s t : State} (h : t.slots = s.slots) (i : SlotId) : t.slot i = s.slot i := by
  simp [State.slot, h]

end Sys2Proof.Machine
end

