-- ==== Sys2Proof/Laws/Events.lean ====
section
/-! SUPPORT. What an occurrence does (R141 to R145, R150): the slot it is posted to, the pending sets, the notice queue,
ALERT, and what it leaves alone. -/
namespace Sys2Proof.Machine

@[simp] theorem State.setPending_part (s : State) (w : Option SlotId) (k : Word16) :
    (s.setPending w k).part = s.part := by cases w <;> rfl

@[simp] theorem State.setPending_port (s : State) (w : Option SlotId) (k : Word16) :
    (s.setPending w k).port = s.port := by cases w <;> rfl

/-- What an occurrence leaves alone: every block but the slots, the event unit and the port. -/
theorem State.occur_frame (s : State) (w : Option SlotId) (k : EventKind) :
    (s.occur w k).part = s.part ∧ (s.occur w k).budget = s.budget ∧ (s.occur w k).admission = s.admission ∧
    (s.occur w k).profiles = s.profiles ∧ (s.occur w k).holdOffTime = s.holdOffTime ∧
    (s.occur w k).slow = s.slow ∧ (s.occur w k).fast = s.fast ∧ (s.occur w k).pending = s.pending ∧
    (s.occur w k).wires = s.wires ∧ (s.occur w k).choices = s.choices := by
  unfold State.occur
  cases w <;> dsimp only [State.setPending] <;> split <;> simp

@[simp] theorem State.occur_part (s : State) (w : Option SlotId) (k : EventKind) : (s.occur w k).part = s.part :=
  (s.occur_frame w k).1

@[simp] theorem State.occur_budget (s : State) (w : Option SlotId) (k : EventKind) : (s.occur w k).budget = s.budget :=
  (s.occur_frame w k).2.1

@[simp] theorem State.occur_admission (s : State) (w : Option SlotId) (k : EventKind) :
    (s.occur w k).admission = s.admission :=
  (s.occur_frame w k).2.2.1

@[simp] theorem State.occur_profiles (s : State) (w : Option SlotId) (k : EventKind) :
    (s.occur w k).profiles = s.profiles :=
  (s.occur_frame w k).2.2.2.1

@[simp] theorem State.occur_holdOffTime (s : State) (w : Option SlotId) (k : EventKind) :
    (s.occur w k).holdOffTime = s.holdOffTime :=
  (s.occur_frame w k).2.2.2.2.1

@[simp] theorem State.occur_slow (s : State) (w : Option SlotId) (k : EventKind) : (s.occur w k).slow = s.slow :=
  (s.occur_frame w k).2.2.2.2.2.1

@[simp] theorem State.occur_fast (s : State) (w : Option SlotId) (k : EventKind) : (s.occur w k).fast = s.fast :=
  (s.occur_frame w k).2.2.2.2.2.2.1

@[simp] theorem State.occur_pending (s : State) (w : Option SlotId) (k : EventKind) :
    (s.occur w k).pending = s.pending :=
  (s.occur_frame w k).2.2.2.2.2.2.2.1

@[simp] theorem State.occur_wires (s : State) (w : Option SlotId) (k : EventKind) : (s.occur w k).wires = s.wires :=
  (s.occur_frame w k).2.2.2.2.2.2.2.2.1

@[simp] theorem State.occur_choices (s : State) (w : Option SlotId) (k : EventKind) :
    (s.occur w k).choices = s.choices :=
  (s.occur_frame w k).2.2.2.2.2.2.2.2.2

/-- Of the port, an occurrence touches the offer mark alone. -/
theorem State.occur_port (s : State) (w : Option SlotId) (k : EventKind) :
    (s.occur w k).port =
      if hasKind s.events.noticeMask k then { s.port with offerDue := true } else s.port := by
  unfold State.occur
  cases w <;> dsimp only [State.setPending] <;> split <;> simp_all

/-- An occurrence on a slot puts the kind in that slot's pending set and changes nothing else of its record but its
outputs, which are driven. -/
@[simp] theorem State.slot_occur_same (s : State) (i : SlotId) (k : EventKind) :
    (s.occur (some i) k).slot i =
      ({ s.slot i with pendingSet := (s.slot i).pendingSet ||| k.bit } : Slot).driven s.slow.lit s.fast.lit := by
  have h : ∀ t : State, t.slots = (s.upd i fun sl => { sl with pendingSet := (s.slot i).pendingSet ||| k.bit }).slots →
      t.slot i =
        ({ s.slot i with pendingSet := (s.slot i).pendingSet ||| k.bit } : Slot).driven s.slow.lit s.fast.lit := by
    intro t ht
    rw [State.slot_eq_of_slots ht]
    simp
  apply h
  unfold State.occur
  dsimp only [State.setPending, State.pendingOf]
  split <;> rfl

/-- An occurrence elsewhere leaves a slot's record. -/
@[simp] theorem State.slot_occur_ne (s : State) {i : SlotId} {w : Option SlotId} (k : EventKind) (h : w ≠ some i) :
    (s.occur w k).slot i = s.slot i := by
  cases w with
  | none =>
    apply State.slot_eq_of_slots
    unfold State.occur
    dsimp only [State.setPending]
    split <;> rfl
  | some j =>
    have hj : i ≠ j := fun e => h (by rw [e])
    have hs : (s.occur (some j) k).slots =
        (s.upd j fun sl => { sl with pendingSet := s.pendingOf (some j) ||| k.bit }).slots := by
      unfold State.occur
      dsimp only [State.setPending]
      split <;> rfl
    rw [State.slot_eq_of_slots hs]
    simp [hj]

/-- After an occurrence, ALERT is the alert condition (R141, R150). -/
theorem State.occur_alert (s : State) (w : Option SlotId) (k : EventKind) :
    (s.occur w k).events.alert = (s.occur w k).alerting := rfl

/-- What a posting does (R144, R145): it raises a queued entry's count, appends an entry, or is lost. -/
theorem Events.post_cases (e : Events) (w : Option SlotId) (k : EventKind) (now : Word32) :
    (e.notices.any (·.isFor w k) = true ∧ e.post w k now =
      { e with notices := e.notices.map fun n => if n.isFor w k then { n with count := satInc 255 n.count } else n }) ∨
    (e.notices.any (·.isFor w k) = false ∧ e.notices.length < 32 ∧
      e.post w k now = { e with notices := e.notices ++ [⟨w, k, 1, now⟩] }) ∨
    (e.notices.any (·.isFor w k) = false ∧ 32 ≤ e.notices.length ∧ e.post w k now = e.lose now) := by
  unfold Events.post
  cases ha : e.notices.any (·.isFor w k) with
  | true => simp
  | false =>
    by_cases hl : e.notices.length < 32
    · simp [hl]
    · simp [hl]; omega

@[simp] theorem Events.post_noticeMask (e : Events) (w : Option SlotId) (k : EventKind) (now : Word32) :
    (e.post w k now).noticeMask = e.noticeMask := by
  obtain ⟨-, h⟩ | ⟨-, -, h⟩ | ⟨-, -, h⟩ := e.post_cases w k now <;> simp [h, Events.lose]

@[simp] theorem Events.post_alertMask (e : Events) (w : Option SlotId) (k : EventKind) (now : Word32) :
    (e.post w k now).alertMask = e.alertMask := by
  obtain ⟨-, h⟩ | ⟨-, -, h⟩ | ⟨-, -, h⟩ := e.post_cases w k now <;> simp [h, Events.lose]

/-- An occurrence leaves both masks. -/
@[simp] theorem State.occur_noticeMask (s : State) (w : Option SlotId) (k : EventKind) :
    (s.occur w k).events.noticeMask = s.events.noticeMask := by
  unfold State.occur
  cases w <;> dsimp only [State.setPending, State.realert] <;> split <;> simp

@[simp] theorem State.occur_alertMask (s : State) (w : Option SlotId) (k : EventKind) :
    (s.occur w k).events.alertMask = s.events.alertMask := by
  unfold State.occur
  cases w <;> dsimp only [State.setPending, State.realert] <;> split <;> simp

end Sys2Proof.Machine
end

