-- ==== Sys2Proof/Laws/Port.lean ====
section
/-! SUPPORT. What the transmit arbiter's offer and the execution of a request do (R152, R162, R163): they touch the port
and the event unit's notice queue and announced flag, and nothing else. -/
namespace Sys2Proof.Machine

/-- What the start of a notice does (R152): nothing, the OVERFLOW notice, or the notice at the head. -/
theorem State.startNotice_cases (s : State) :
    (s.startNotice = s ∧ s.events.notices = [] ∧ (s.events.overflow = true → s.events.announced = true)) ∨
    (s.events.overflow = true ∧ s.events.announced = false ∧
      s.startNotice = { s with
        events := { s.events with announced := true }
        port := { s.port with credit := s.port.credit - 1, sending := some (.notice s.events.overflowFrame) } }) ∨
    (∃ n rest, s.events.notices = n :: rest ∧ ¬(s.events.overflow = true ∧ s.events.announced = false) ∧
      s.startNotice = { s with
        events := { s.events with notices := rest }
        port := { s.port with credit := s.port.credit - 1, sending := some (.notice (s.noticeFrame n)) } }) := by
  unfold State.startNotice
  by_cases h : s.events.overflow = true ∧ s.events.announced = false
  · exact .inr (.inl ⟨h.1, h.2, by simp [h]⟩)
  · rw [if_neg h]
    cases hn : s.events.notices with
    | nil =>
      refine .inl ⟨rfl, rfl, fun ho => ?_⟩
      cases ha : s.events.announced with
      | true => rfl
      | false => exact absurd ⟨ho, ha⟩ h
    | cons n rest => exact .inr (.inr ⟨n, rest, rfl, h, rfl⟩)

/-- What an offer does (R163): nothing while the line is not free; else the reply or reject produced first; else a
notice, with credit. -/
theorem State.offer_cases (s : State) :
    (s.lineIdle = false ∧ s.offer = s) ∨
    (s.lineIdle = true ∧ ∃ tag rest, s.port.ready = .reply tag :: rest ∧
      s.offer = { s with port := ({ s.port with ready := rest }).startReply tag }) ∨
    (s.lineIdle = true ∧ ∃ st tag rest, s.port.ready = .reject st tag :: rest ∧
      s.offer = { s with port := { s.port with ready := rest, sending := some (.reject st tag) } }) ∨
    (s.lineIdle = true ∧ s.port.ready = [] ∧ 1 ≤ s.port.credit ∧ s.offer = s.startNotice) ∨
    (s.lineIdle = true ∧ s.port.ready = [] ∧ s.port.credit = 0 ∧ s.offer = s) := by
  unfold State.offer
  cases hl : s.lineIdle with
  | false => exact .inl ⟨rfl, rfl⟩
  | true =>
    rw [if_pos rfl]
    match hr : s.port.ready with
    | .reply tag :: rest => exact .inr (.inl ⟨rfl, tag, rest, rfl, rfl⟩)
    | .reject st tag :: rest => exact .inr (.inr (.inl ⟨rfl, st, tag, rest, rfl, rfl⟩))
    | [] =>
      by_cases hc : 1 ≤ s.port.credit
      · exact .inr (.inr (.inr (.inl ⟨rfl, rfl, hc, by simp [hc]⟩)))
      · exact .inr (.inr (.inr (.inr ⟨rfl, rfl, by omega, by simp [hc]⟩)))

/-- Of the port, the start of a reply touches the request queue and the frame being sent. -/
theorem Port.startReply_frame (p : Port) (tag : Byte) :
    { p.startReply tag with requests := p.requests, sending := p.sending } = p := by
  unfold Port.startReply
  split <;> rfl

/-- What an offer leaves alone: every block but the port and the event unit; of the event unit, all but the notice queue
and the announced flag. -/
theorem State.offer_frame (s : State) :
    { s.offer with port := s.port, events := s.events } = s ∧
    { s.offer.events with notices := s.events.notices, announced := s.events.announced } = s.events := by
  obtain ⟨-, h⟩ | ⟨-, tag, rest, -, h⟩ | ⟨-, st, tag, rest, -, h⟩ | ⟨-, -, -, h⟩ | ⟨-, -, -, h⟩ := s.offer_cases
  · rw [h]; exact ⟨rfl, rfl⟩
  · rw [h]; exact ⟨rfl, rfl⟩
  · rw [h]; exact ⟨rfl, rfl⟩
  · rw [h]
    obtain ⟨h, -, -⟩ | ⟨-, -, h⟩ | ⟨n, rest, -, -, h⟩ := s.startNotice_cases <;> rw [h] <;> exact ⟨rfl, rfl⟩
  · rw [h]; exact ⟨rfl, rfl⟩

/-- What the end of a happening leaves alone, as an offer does. -/
theorem State.finish_frame (s : State) :
    { s.finish with port := s.port, events := s.events } = s ∧
    { s.finish.events with notices := s.events.notices, announced := s.events.announced } = s.events := by
  unfold State.finish
  split
  · have h := ({ s with port.offerDue := false } : State).offer_frame
    exact ⟨by simpa using congrArg (fun t : State => { t with port := s.port }) h.1, h.2⟩
  · exact ⟨rfl, rfl⟩

@[simp] theorem State.finish_part (s : State) : s.finish.part = s.part := by
  have h := congrArg State.part s.finish_frame.1; exact h

@[simp] theorem State.finish_budget (s : State) : s.finish.budget = s.budget := by
  have h := congrArg State.budget s.finish_frame.1; exact h

@[simp] theorem State.finish_admission (s : State) : s.finish.admission = s.admission := by
  have h := congrArg State.admission s.finish_frame.1; exact h

@[simp] theorem State.finish_profiles (s : State) : s.finish.profiles = s.profiles := by
  have h := congrArg State.profiles s.finish_frame.1; exact h

@[simp] theorem State.finish_slots (s : State) : s.finish.slots = s.slots := by
  have h := congrArg State.slots s.finish_frame.1; exact h

@[simp] theorem State.finish_holdOffTime (s : State) : s.finish.holdOffTime = s.holdOffTime := by
  have h := congrArg State.holdOffTime s.finish_frame.1; exact h

@[simp] theorem State.finish_slow (s : State) : s.finish.slow = s.slow := by
  have h := congrArg State.slow s.finish_frame.1; exact h

@[simp] theorem State.finish_fast (s : State) : s.finish.fast = s.fast := by
  have h := congrArg State.fast s.finish_frame.1; exact h

@[simp] theorem State.finish_pending (s : State) : s.finish.pending = s.pending := by
  have h := congrArg State.pending s.finish_frame.1; exact h

@[simp] theorem State.finish_wires (s : State) : s.finish.wires = s.wires := by
  have h := congrArg State.wires s.finish_frame.1; exact h

@[simp] theorem State.finish_choices (s : State) : s.finish.choices = s.choices := by
  have h := congrArg State.choices s.finish_frame.1; exact h

@[simp] theorem State.slot_finish (s : State) (i : SlotId) : s.finish.slot i = s.slot i :=
  State.slot_eq_of_slots s.finish_slots i

@[simp] theorem State.finish_pendingZero (s : State) : s.finish.events.pendingZero = s.events.pendingZero := by
  have h := congrArg Events.pendingZero s.finish_frame.2; exact h

@[simp] theorem State.finish_alert (s : State) : s.finish.events.alert = s.events.alert := by
  have h := congrArg Events.alert s.finish_frame.2; exact h

@[simp] theorem State.finish_noticeMask (s : State) : s.finish.events.noticeMask = s.events.noticeMask := by
  have h := congrArg Events.noticeMask s.finish_frame.2; exact h

@[simp] theorem State.finish_alertMask (s : State) : s.finish.events.alertMask = s.events.alertMask := by
  have h := congrArg Events.alertMask s.finish_frame.2; exact h

@[simp] theorem State.finish_overflow (s : State) : s.finish.events.overflow = s.events.overflow := by
  have h := congrArg Events.overflow s.finish_frame.2; exact h

@[simp] theorem State.finish_lostCount (s : State) : s.finish.events.lostCount = s.events.lostCount := by
  have h := congrArg Events.lostCount s.finish_frame.2; exact h

@[simp] theorem State.finish_overflowStamp (s : State) : s.finish.events.overflowStamp = s.events.overflowStamp := by
  have h := congrArg Events.overflowStamp s.finish_frame.2; exact h

/-- A happening that made no frame ready ends without an offer. -/
@[simp] theorem State.finish_of_no_offer (s : State) (h : s.port.offerDue = false) : s.finish = s := by
  simp [State.finish, h]

/-- The execution of a request (R162): the owed one is carried out and answered, any other leaves the state. -/
theorem State.execute_cases (s : State) (tag kind : Byte) (payload : List Byte) (body : State → State × List Byte) :
    (s.requestDue tag kind payload = true ∧
      s.execute tag kind payload body = ((body s).1.answer tag (body s).2).finish) ∨
    (s.requestDue tag kind payload = false ∧ s.execute tag kind payload body = s) := by
  unfold State.execute
  cases h : s.requestDue tag kind payload with
  | true => exact .inl ⟨rfl, by simp⟩
  | false => exact .inr ⟨rfl, by simp⟩

/-- A happening that arises under a condition has its effect where the condition holds, and none where it does not. -/
theorem State.happen_cases (s : State) (arises : Bool) (effect : State) :
    (arises = true ∧ s.happen arises effect = .next effect.finish) ∨
    (arises = false ∧ s.happen arises effect = .next s) := by
  cases arises <;> simp [State.happen]

end Sys2Proof.Machine
end

