-- ==== Sys2Proof/Laws/Operations.lean ====
section
/-! SUPPORT. What the shared operations of a slot do, each said once: the end of an operation (R48), a release (R13), a
cut (R62), a fault (R99), the freeing of an inrush position (R14) and the joining of the queue (R23). -/
namespace Sys2Proof.Machine

/-! ### The end of an operation (R48) -/

/-- Without an operation in flight, nothing ends. -/
@[simp] theorem State.endOperation_none (s : State) (i : SlotId) (out : OutcomeKind)
    (h : (s.slot i).operation = none) : s.endOperation i out = s := by
  simp [State.endOperation, h]

/-- The end of an operation in flight: the record is written, the operation is gone, OP_DONE is posted. -/
theorem State.endOperation_some (s : State) (i : SlotId) (out : OutcomeKind) {o : Operation}
    (h : (s.slot i).operation = some o) :
    s.endOperation i out =
      (s.upd i fun sl => { sl with lastOutcome := some (o.ended out s.part.uptime), operation := none }).occur
        (some i) .opDone := by
  simp [State.endOperation, h]

/-- The end of an operation leaves every block but the slots, the event unit and the offer mark. -/
theorem State.endOperation_frame (s : State) (i : SlotId) (out : OutcomeKind) :
    (s.endOperation i out).part = s.part ∧ (s.endOperation i out).budget = s.budget ∧
    (s.endOperation i out).admission = s.admission ∧ (s.endOperation i out).profiles = s.profiles ∧
    (s.endOperation i out).holdOffTime = s.holdOffTime ∧ (s.endOperation i out).slow = s.slow ∧
    (s.endOperation i out).fast = s.fast ∧ (s.endOperation i out).pending = s.pending ∧
    (s.endOperation i out).wires = s.wires ∧ (s.endOperation i out).choices = s.choices := by
  unfold State.endOperation
  split <;> simp

@[simp] theorem State.endOperation_part (s : State) (i : SlotId) (out : OutcomeKind) :
    (s.endOperation i out).part = s.part := (s.endOperation_frame i out).1

@[simp] theorem State.endOperation_budget (s : State) (i : SlotId) (out : OutcomeKind) :
    (s.endOperation i out).budget = s.budget := (s.endOperation_frame i out).2.1

@[simp] theorem State.endOperation_admission (s : State) (i : SlotId) (out : OutcomeKind) :
    (s.endOperation i out).admission = s.admission := (s.endOperation_frame i out).2.2.1

@[simp] theorem State.endOperation_profiles (s : State) (i : SlotId) (out : OutcomeKind) :
    (s.endOperation i out).profiles = s.profiles := (s.endOperation_frame i out).2.2.2.1

@[simp] theorem State.endOperation_slow (s : State) (i : SlotId) (out : OutcomeKind) :
    (s.endOperation i out).slow = s.slow := (s.endOperation_frame i out).2.2.2.2.2.1

@[simp] theorem State.endOperation_fast (s : State) (i : SlotId) (out : OutcomeKind) :
    (s.endOperation i out).fast = s.fast := (s.endOperation_frame i out).2.2.2.2.2.2.1

/-- Another slot's record stays. -/
@[simp] theorem State.slot_endOperation_ne (s : State) {i j : SlotId} (out : OutcomeKind) (h : j ≠ i) :
    (s.endOperation i out).slot j = s.slot j := by
  unfold State.endOperation
  have h' : (some i : Option SlotId) ≠ some j := fun e => h (by simpa using e.symm)
  split <;> simp [h, h']

/-- The record of the slot whose operation ends. -/
theorem State.slot_endOperation_some (s : State) (i : SlotId) (out : OutcomeKind) {o : Operation}
    (h : (s.slot i).operation = some o) :
    (s.endOperation i out).slot i =
      ({ s.slot i with
          lastOutcome := some (o.ended out s.part.uptime), operation := none
          pendingSet := (s.slot i).pendingSet ||| EventKind.opDone.bit } : Slot).driven s.slow.lit s.fast.lit := by
  rw [s.endOperation_some i out h]
  simp [Slot.driven, Slot.outputs, Slot.powerMode, Slot.attnMode, Slot.lockDrive]

/-! ### A release (R13) and a cut (R62) -/

/-- What a release does: nothing without a commitment; else the commitment is gone, the committed total lower by its
amount, and a held inrush position freed. -/
theorem State.release_cases (s : State) (i : SlotId) :
    ((s.slot i).commitment = none ∧ s.release i = s) ∨
    (∃ c, (s.slot i).commitment = some c ∧
      (s.release i).slot i = ({ s.slot i with commitment := none } : Slot).driven s.slow.lit s.fast.lit ∧
      (s.release i).budget = { s.budget with committed := s.budget.committed - c.amount } ∧
      (s.release i).admission =
        { s.admission with
          inrushHeld := if c.inrush then s.admission.inrushHeld - 1 else s.admission.inrushHeld } ∧
      (s.release i).part = s.part ∧ (s.release i).events = s.events ∧ (s.release i).port = s.port ∧
      (s.release i).slow = s.slow ∧ (s.release i).fast = s.fast ∧ (s.release i).profiles = s.profiles ∧
      ∀ j, j ≠ i → (s.release i).slot j = s.slot j) := by
  unfold State.release
  cases h : (s.slot i).commitment with
  | none => exact .inl ⟨rfl, rfl⟩
  | some c =>
    refine .inr ⟨c, rfl, ?_, rfl, rfl, rfl, rfl, rfl, rfl, rfl, rfl, ?_⟩
    · exact State.slot_upd_same _ i _
    · intro j hj
      exact State.slot_upd_ne _ _ hj

/-- What a cut does to its slot: the state given, no commitment, no count and no due mark. -/
theorem State.slot_cutQuiet_same (s : State) (i : SlotId) (st : PowerState) :
    (s.cutQuiet i st).slot i =
      (({ s.slot i with commitment := none } : Slot).stopped st).driven s.slow.lit s.fast.lit := by
  unfold State.cutQuiet
  obtain ⟨hn, h⟩ | ⟨c, -, hs, -, -, -, -, -, hsl, hf, -⟩ := s.release_cases i
  · rw [h, State.slot_upd_same]
    simp [Slot.stopped, ← hn]
  · rw [State.slot_upd_same, hs, hsl, hf]
    rfl

@[simp] theorem State.slot_cutQuiet_ne (s : State) {i j : SlotId} (st : PowerState) (h : j ≠ i) :
    (s.cutQuiet i st).slot j = s.slot j := by
  unfold State.cutQuiet
  rw [State.slot_upd_ne _ _ h]
  obtain ⟨-, hr⟩ | ⟨c, -, -, -, -, -, -, -, -, -, -, hne⟩ := s.release_cases i
  · rw [hr]
  · exact hne j h

/-- A cut reads at its slot as the quiet cut does: only the pass-due mark tells them apart. -/
theorem State.slot_cut_same (s : State) (i : SlotId) (st : PowerState) :
    (s.cut i st).slot i =
      (({ s.slot i with commitment := none } : Slot).stopped st).driven s.slow.lit s.fast.lit := by
  unfold State.cut
  split <;> simp [State.slot_cutQuiet_same]

@[simp] theorem State.slot_cut_ne (s : State) {i j : SlotId} (st : PowerState) (h : j ≠ i) :
    (s.cut i st).slot j = s.slot j := by
  unfold State.cut
  split <;> simp [h]

/-- What a cut does to the accounts: with a commitment they are as after its release, with the pass-due mark set. -/
theorem State.cut_cases (s : State) (i : SlotId) (st : PowerState) :
    ((s.slot i).commitment = none ∧ (s.cut i st).budget = s.budget ∧ (s.cut i st).admission = s.admission) ∨
    (∃ c, (s.slot i).commitment = some c ∧
      (s.cut i st).budget = { s.budget with committed := s.budget.committed - c.amount } ∧
      (s.cut i st).admission =
        { s.admission with
          inrushHeld := if c.inrush then s.admission.inrushHeld - 1 else s.admission.inrushHeld
          passDue := true }) := by
  unfold State.cut State.cutQuiet
  obtain ⟨hn, h⟩ | ⟨c, hc, -, hb, ha, -⟩ := s.release_cases i
  · exact .inl ⟨hn, by simp [hn, h], by simp [hn, h]⟩
  · exact .inr ⟨c, hc, by simp [hc, hb], by simp [hc, ha, State.markPass]⟩

/-- A cut leaves the part-wide block, the profiles, the events, the port and the patterns. -/
theorem State.cut_frame (s : State) (i : SlotId) (st : PowerState) :
    (s.cut i st).part = s.part ∧ (s.cut i st).profiles = s.profiles ∧ (s.cut i st).events = s.events ∧
    (s.cut i st).port = s.port ∧ (s.cut i st).slow = s.slow ∧ (s.cut i st).fast = s.fast := by
  unfold State.cut State.cutQuiet
  obtain ⟨hn, h⟩ | ⟨c, hc, -, -, -, hp, he, hpo, hs, hf, hpr, -⟩ := s.release_cases i
  · simp [hn, h]
  · simp [hc, hp, he, hpo, hs, hf, hpr]

/-! ### The admission queue (R23, R26) -/

/-- Placing an entry adds that entry and no other. -/
theorem mem_placeEntry (e x : QueueEntry) (q : List QueueEntry) : x ∈ placeEntry e q ↔ x = e ∨ x ∈ q := by
  induction q with
  | nil => simp [placeEntry]
  | cons y ys ih =>
    unfold placeEntry
    split
    · simp [ih]; tauto
    · simp

/-- The entries already queued keep their order among themselves. -/
theorem placeEntry_sublist (e : QueueEntry) (q : List QueueEntry) : q.Sublist (placeEntry e q) := by
  induction q with
  | nil => simp [placeEntry]
  | cons y ys ih =>
    unfold placeEntry
    split
    · exact ih.cons_cons y
    · exact List.sublist_cons_self e _

/-- Placing an entry is a permutation of putting it at the head. -/
theorem placeEntry_perm (e : QueueEntry) (q : List QueueEntry) : (placeEntry e q).Perm (e :: q) := by
  induction q with
  | nil => simp [placeEntry]
  | cons y ys ih =>
    unfold placeEntry
    split
    · exact (ih.cons y).trans (List.Perm.swap e y ys)
    · exact List.Perm.refl _

/-- An entry placed in an ordered queue, with a stamp not below the stamps there, leaves it ordered (R26). -/
theorem placeEntry_ordered (e : QueueEntry) (q : List QueueEntry)
    (hq : q.Pairwise fun a b => a.priority > b.priority ∨ (a.priority = b.priority ∧ a.stamp ≤ b.stamp))
    (hs : ∀ x ∈ q, x.stamp ≤ e.stamp) :
    (placeEntry e q).Pairwise fun a b => a.priority > b.priority ∨ (a.priority = b.priority ∧ a.stamp ≤ b.stamp) := by
  induction q with
  | nil => simp [placeEntry]
  | cons y ys ih =>
    rw [List.pairwise_cons] at hq
    unfold placeEntry
    split
    · rename_i hle
      refine List.pairwise_cons.2 ⟨fun x hx => ?_, ih hq.2 fun x hx => hs x (by simp [hx])⟩
      rcases (mem_placeEntry e x ys).1 hx with rfl | hx
      · rcases Nat.lt_or_eq_of_le hle with h | h
        · exact .inl h
        · exact .inr ⟨h.symm, hs y (by simp)⟩
      · exact hq.1 x hx
    · rename_i hlt
      refine List.pairwise_cons.2 ⟨fun x hx => .inl ?_, List.pairwise_cons.2 hq⟩
      rcases List.mem_cons.1 hx with rfl | hx
      · omega
      · have := hq.1 x hx
        omega

/-- What a join does (R23): a ticket, the operation, the entry, the state WAITING, the mark. -/
theorem State.joinQueue_spec (s : State) (i : SlotId) (origin : Origin) (mark : Bool) :
    (s.joinQueue i origin mark).slot i =
      ({ s.slot i with
          power := .waiting, autoPending := false
          operation := some ⟨.powerOn, s.part.ticketCounter, origin, s.part.uptime⟩ } : Slot).driven
        s.slow.lit s.fast.lit ∧
    (∀ j, j ≠ i → (s.joinQueue i origin mark).slot j = s.slot j) ∧
    (s.joinQueue i origin mark).part = { s.part with ticketCounter := nextTicket s.part.ticketCounter } ∧
    (s.joinQueue i origin mark).admission =
      { s.admission with
        enqueueCounter := satInc stampTop s.admission.enqueueCounter
        queue := placeEntry
          ⟨i, (s.slot i).priority, satInc stampTop s.admission.enqueueCounter, origin, s.part.ticketCounter, 0, mark⟩
          s.admission.queue
        passDue := true } ∧
    (s.joinQueue i origin mark).budget = s.budget ∧ (s.joinQueue i origin mark).events = s.events ∧
    (s.joinQueue i origin mark).port = s.port := by
  have h1 : (s.startOperation i .powerOn origin).slot i =
      ({ s.slot i with
          autoPending := false
          operation := some ⟨.powerOn, s.part.ticketCounter, origin, s.part.uptime⟩ } : Slot).driven
        s.slow.lit s.fast.lit := by
    simp [State.startOperation, OpKind.isLock]
  have h2 : ∀ j, j ≠ i → (s.startOperation i .powerOn origin).slot j = s.slot j := by
    intro j hj
    simp [State.startOperation, hj]
  refine ⟨?_, ?_, rfl, ?_, rfl, rfl, rfl⟩
  · refine (State.slot_upd_same _ i _).trans ?_
    show (({ (s.startOperation i .powerOn origin).slot i with power := .waiting } : Slot)).driven _ _ = _
    rw [h1]
    rfl
  · intro j hj
    exact (State.slot_upd_ne _ _ hj).trans (h2 j hj)
  · show { s.admission with
        enqueueCounter := satInc stampTop s.admission.enqueueCounter
        queue := placeEntry
          ⟨i, ((s.startOperation i .powerOn origin).slot i).priority, satInc stampTop s.admission.enqueueCounter, origin,
            s.part.ticketCounter, 0, mark⟩
          s.admission.queue
        passDue := true } = _
    rw [h1]
    rfl

end Sys2Proof.Machine
end

