-- ==== Sys2Proof/Laws/Requests.lean ====
section
/-! SUPPORT. The execution of a request, said once (R162, R163): an owed request whose body leaves the request queue alone
is answered, and nothing else happens. -/
namespace Sys2Proof.Machine

/-- The reply is stored in the entry of the request that was owed. -/
theorem mem_storeReply {tag kind : Byte} {payload reply : List Byte} {l : List Request}
    (h : l.find? (fun r => r.reply.isNone) = some ⟨tag, kind, payload, none⟩) :
    (⟨tag, kind, payload, some reply⟩ : Request) ∈ storeReply tag reply l := by
  induction l with
  | nil => simp at h
  | cons r rest ih =>
    unfold storeReply
    by_cases hr : r.reply.isNone
    · rw [List.find?_cons_of_pos (p := fun r : Request => r.reply.isNone) hr] at h
      have : r = ⟨tag, kind, payload, none⟩ := by simpa using h
      subst this
      simp
    · rw [List.find?_cons_of_neg (p := fun r : Request => r.reply.isNone) hr] at h
      have hn : r.reply ≠ none := by simpa using hr
      simp [hn, ih h]

/-- Storing a reply changes no tag. -/
theorem storeReply_tags (tag : Byte) (reply : List Byte) (l : List Request) :
    (storeReply tag reply l).map (·.tag) = l.map (·.tag) := by
  induction l with
  | nil => rfl
  | cons r rest ih =>
    unfold storeReply
    split <;> simp [ih]

/-- With tags pairwise different, two entries with one tag are one entry. -/
theorem eq_of_tag_eq {l : List Request} (h : (l.map (·.tag)).Nodup) {a b : Request} (ha : a ∈ l) (hb : b ∈ l)
    (e : a.tag = b.tag) : a = b := by
  induction l with
  | nil => simp at ha
  | cons r rest ih =>
    rw [List.map_cons, List.nodup_cons] at h
    rcases List.mem_cons.1 ha with ha | ha <;> rcases List.mem_cons.1 hb with hb | hb
    · rw [ha, hb]
    · exact absurd (List.mem_map.2 ⟨b, hb, by rw [← e, ha]⟩) h.1
    · exact absurd (List.mem_map.2 ⟨a, ha, by rw [e, hb]⟩) h.1
    · exact ih h.2 ha hb

/-- With tags pairwise different, the entry of the owed request is the one entry of its tag, so storing the reply there
is writing it into every entry of that tag. -/
theorem storeReply_eq_map {tag kind : Byte} {payload reply : List Byte} {l : List Request}
    (h : l.find? (fun r => r.reply.isNone) = some ⟨tag, kind, payload, none⟩) (hd : (l.map (·.tag)).Nodup) :
    storeReply tag reply l = l.map fun r => if r.tag = tag then { r with reply := some reply } else r := by
  induction l with
  | nil => rfl
  | cons r rest ih =>
    rw [List.map_cons, List.nodup_cons] at hd
    unfold storeReply
    by_cases hr : r.reply.isNone
    · rw [List.find?_cons_of_pos (p := fun r : Request => r.reply.isNone) hr] at h
      have : r = ⟨tag, kind, payload, none⟩ := by simpa using h
      subst this
      have hrest : (rest.map fun r => if r.tag = tag then { r with reply := some reply } else r) = rest := by
        refine (List.map_congr_left fun x hx => if_neg fun e => hd.1 ?_).trans (List.map_id _)
        exact List.mem_map.2 ⟨x, hx, e⟩
      simp [hrest]
    · rw [List.find?_cons_of_neg (p := fun r : Request => r.reply.isNone) hr] at h
      have hn : r.reply ≠ none := by simpa using hr
      have ht : r.tag ≠ tag := fun e => hd.1 (List.mem_map.2 ⟨_, List.mem_of_find?_eq_some h, e.symm⟩)
      simp [hn, ht, ih h hd.2]

/-- With tags pairwise different, a reply starts as `Port.startsFirst` says. -/
theorem Port.startReply_eq {p : Port} {tag : Byte} {rest : List Ready} (hr : p.ready = .reply tag :: rest)
    (hd : (p.requests.map (·.tag)).Nodup) : ({ p with ready := rest } : Port).startReply tag = p.startsFirst := by
  unfold Port.startReply Port.startsFirst
  rw [hr]
  have hfilter (r : Request) (hm : r ∈ p.requests) (ht : r.tag = tag) (hs : r.reply.isSome = true) :
      p.requests.filter (fun r => !r.answers tag) = p.requests.filter fun r => decide (r.tag ≠ tag) := by
    refine List.filter_congr fun x hx => ?_
    by_cases hxt : x.tag = tag
    · have : x = r := eq_of_tag_eq hd hx hm (hxt.trans ht.symm)
      simp [Request.answers, this, ht, hs]
    · simp [Request.answers, hxt]
  cases hf : p.requests.find? (fun r => decide (r.tag = tag)) with
  | none =>
    have h1 : p.requests.find? (·.answers tag) = none := by
      refine List.find?_eq_none.2 fun x hx => ?_
      have := List.find?_eq_none.1 hf x hx
      simp at this
      simp [Request.answers, this]
    simp only [h1, hf]
  | some r =>
    have hm := List.mem_of_find?_eq_some hf
    have ht : r.tag = tag := by simpa using List.find?_some hf
    obtain ⟨rt, rk, rp, rr⟩ := r
    cases rr with
    | none =>
      have h1 : p.requests.find? (·.answers tag) = none := by
        refine List.find?_eq_none.2 fun x hx hxa => ?_
        simp [Request.answers] at hxa
        have : x = ⟨rt, rk, rp, none⟩ := eq_of_tag_eq hd hx hm (hxa.1.trans ht.symm)
        rw [this] at hxa
        simp at hxa
      simp only [h1, hf]
    | some bytes =>
      have h1 : p.requests.find? (·.answers tag) = some ⟨rt, rk, rp, some bytes⟩ := by
        cases hg : p.requests.find? (·.answers tag) with
        | none => exact absurd (List.find?_eq_none.1 hg _ hm) (by simp [Request.answers, show rt = tag from ht])
        | some x =>
          have hx := List.find?_some hg
          simp [Request.answers] at hx
          rw [eq_of_tag_eq hd (List.mem_of_find?_eq_some hg) hm (hx.1.trans ht.symm)]
      simp only [h1, hf, hfilter _ hm ht rfl, Option.getD_some]

/-- The port of an answered request: the reply is stored and joins the tail of the waiting frames, and on an idle line the
frame that waits first starts. -/
theorem State.answer_port {u : State} {kind tag : Byte} {payload reply : List Byte}
    (hn : u.port.requests.find? (fun r => r.reply.isNone) = some ⟨tag, kind, payload, none⟩)
    (hd : (u.port.requests.map (·.tag)).Nodup) (hk : u.part.restartAsk.isDue = false) :
    (u.answer tag reply).finish.port =
      (let p := { u.port.withReply tag reply with offerDue := false }
       if p.sending = none ∧ p.rxHeld = false then p.startsFirst else p) := by
  have hp : ({ u.answer tag reply with port := { (u.answer tag reply).port with offerDue := false } } : State) =
      { u with port := { u.port.withReply tag reply with offerDue := false } } := by
    simp [State.answer, Port.withReply, storeReply_eq_map hn hd]
  have hf : (u.answer tag reply).finish =
      ({ u.answer tag reply with port := { (u.answer tag reply).port with offerDue := false } } : State).offer := rfl
  rw [hf, hp]
  have hd' : ((u.port.withReply tag reply).requests.map (·.tag)).Nodup := by
    rw [show (u.port.withReply tag reply).requests = _ from (storeReply_eq_map hn hd).symm, storeReply_tags]
    exact hd
  have hidle : ({ u with port := { u.port.withReply tag reply with offerDue := false } } : State).lineIdle =
      decide (u.port.sending = none ∧ u.port.rxHeld = false) := by
    cases h1 : u.port.sending <;> cases h2 : u.port.rxHeld <;> simp [State.lineIdle, Port.withReply, h1, h2, hk]
  unfold State.offer
  rw [hidle]
  by_cases hc : u.port.sending = none ∧ u.port.rxHeld = false
  · rw [decide_eq_true hc, if_pos rfl]
    refine Eq.trans ?_ (if_pos hc).symm
    have hsplit : ∃ x rest, (u.port.withReply tag reply).ready = x :: rest := by
      cases hr : (u.port.withReply tag reply).ready with
      | nil => exact absurd hr (by simp [Port.withReply])
      | cons x rest => exact ⟨x, rest, rfl⟩
    obtain ⟨x, rest, hx⟩ := hsplit
    cases x with
    | reject st g => simp [hx, Port.startsFirst]
    | reply g =>
      rw [← Port.startReply_eq (p := { u.port.withReply tag reply with offerDue := false }) (tag := g) (rest := rest)
        hx hd']
      simp only [hx]
  · rw [decide_eq_false hc]
    exact (if_neg hc).symm

/-- An answered request is answered in the sense of the statements. -/
theorem State.answered_of_answer {u : State} {kind tag : Byte} {payload reply : List Byte}
    (hn : u.port.requests.find? (fun r => r.reply.isNone) = some ⟨tag, kind, payload, none⟩)
    (hd : (u.port.requests.map (·.tag)).Nodup) (hk : u.part.restartAsk.isDue = false) :
    u.Answered (u.answer tag reply).finish kind tag reply := by
  suffices h : { (u.answer tag reply).finish with port := u.port } = u ∧
      (u.answer tag reply).finish.port.Holds kind tag reply from ⟨h.1, h.2, State.answer_port hn hd hk⟩
  have hm := mem_storeReply (reply := reply) hn
  have hd' : ((storeReply tag reply u.port.requests).map (·.tag)).Nodup := by rw [storeReply_tags]; exact hd
  have hf : (u.answer tag reply).finish =
      ({ u.answer tag reply with port := { (u.answer tag reply).port with offerDue := false } } : State).offer := rfl
  rw [hf]
  obtain ⟨-, h⟩ | ⟨-, tag', rest, hr, h⟩ | ⟨-, st, tag', rest, hr, h⟩ | ⟨-, hr, -⟩ | ⟨-, hr, -⟩ :=
    ({ u.answer tag reply with port := { (u.answer tag reply).port with offerDue := false } } : State).offer_cases
  · rw [h]
    exact ⟨rfl, .inr ⟨by simp [State.answer], _, hm, rfl, rfl, rfl⟩⟩
  · rw [h]
    refine ⟨rfl, ?_⟩
    · have hr' : u.port.ready ++ [Ready.reply tag] = Ready.reply tag' :: rest := hr
      by_cases ht : tag' = tag
      · subst ht
        refine .inl ?_
        have hfind : (storeReply tag' reply u.port.requests).find? (·.answers tag') =
            some ⟨tag', kind, payload, some reply⟩ := by
          cases hfd : (storeReply tag' reply u.port.requests).find? (·.answers tag') with
          | none =>
            have := List.find?_eq_none.1 hfd _ hm
            simp [Request.answers] at this
          | some r =>
            have hp := List.find?_some hfd
            have hmem := List.mem_of_find?_eq_some hfd
            have : r = ⟨tag', kind, payload, some reply⟩ :=
              eq_of_tag_eq hd' hmem hm (by simp [Request.answers] at hp; exact hp.1)
            rw [this]
        simp [Port.startReply, State.answer, hfind]
      · have hmr : Ready.reply tag ∈ rest := by
          cases hu : u.port.ready with
          | nil => rw [hu] at hr'; simp at hr'; exact absurd hr'.1.symm ht
          | cons x xs =>
            rw [hu] at hr'
            simp at hr'
            rw [← hr'.2]; simp
        refine .inr ⟨?_, ⟨tag, kind, payload, some reply⟩, ?_, rfl, rfl, rfl⟩
        · unfold Port.startReply
          split <;> exact hmr
        · unfold Port.startReply
          split
          · exact hm
          · exact List.mem_filter.2 ⟨hm, by simp [Request.answers, Ne.symm ht]⟩
  · rw [h]
    refine ⟨rfl, .inr ⟨?_, _, hm, rfl, rfl, rfl⟩⟩
    have hr' : u.port.ready ++ [Ready.reply tag] = Ready.reject st tag' :: rest := hr
    cases hu : u.port.ready with
    | nil => rw [hu] at hr'; simp at hr'
    | cons x xs =>
      rw [hu] at hr'
      simp at hr'
      show Ready.reply tag ∈ rest
      rw [← hr'.2]; simp
  · exact absurd hr (by simp [State.answer])
  · exact absurd hr (by simp [State.answer])

/-- The execution of an owed request (R162): its body is carried out and its reply made ready. -/
theorem State.execute_answered {s u : State} {kind tag : Byte} {payload reply : List Byte}
    {body : State → State × List Byte} (h : s.Owes kind tag payload) (hb : body s = (u, reply))
    (hr : u.port.requests = s.port.requests) (hk : u.part.restartAsk.isDue = false) : u.Answered (s.execute tag kind payload body) kind tag reply := by
  obtain ⟨hdue, hd⟩ := h
  unfold State.execute
  rw [if_pos hdue, hb]
  have hn : s.port.nextRequest = some ⟨tag, kind, payload, none⟩ := by
    simp [State.requestDue] at hdue
    exact hdue.1
  exact State.answered_of_answer (payload := payload) (by rw [hr]; exact hn) (by rw [hr]; exact hd) hk

end Sys2Proof.Machine
end

