-- ==== Sys2Proof/Laws/Becomes.lean ====
section
/-! SUPPORT. The shared operations in the form the statements use: a slot takes a record and occurrences are made, and
every other block is as in a base state. Each operation on a slot of `b.becomes i sl os` is again of that form. -/
namespace Sys2Proof.Machine

/-! ### What the form leaves alone -/

@[simp] theorem State.posting_part (b : State) (os : List Occurrence) : (b.posting os).part = b.part := rfl
@[simp] theorem State.posting_budget (b : State) (os : List Occurrence) : (b.posting os).budget = b.budget := rfl
@[simp] theorem State.posting_admission (b : State) (os : List Occurrence) : (b.posting os).admission = b.admission := rfl
@[simp] theorem State.posting_profiles (b : State) (os : List Occurrence) : (b.posting os).profiles = b.profiles := rfl
@[simp] theorem State.posting_slots (b : State) (os : List Occurrence) : (b.posting os).slots = b.slots := rfl
@[simp] theorem State.posting_slow (b : State) (os : List Occurrence) : (b.posting os).slow = b.slow := rfl
@[simp] theorem State.posting_fast (b : State) (os : List Occurrence) : (b.posting os).fast = b.fast := rfl
@[simp] theorem State.slot_posting (b : State) (os : List Occurrence) (j : SlotId) : (b.posting os).slot j = b.slot j := rfl

@[simp] theorem State.becomes_part (b : State) (i : SlotId) (sl : Slot) (os : List Occurrence) :
    (b.becomes i sl os).part = b.part := rfl
@[simp] theorem State.becomes_budget (b : State) (i : SlotId) (sl : Slot) (os : List Occurrence) :
    (b.becomes i sl os).budget = b.budget := rfl
@[simp] theorem State.becomes_admission (b : State) (i : SlotId) (sl : Slot) (os : List Occurrence) :
    (b.becomes i sl os).admission = b.admission := rfl
@[simp] theorem State.becomes_profiles (b : State) (i : SlotId) (sl : Slot) (os : List Occurrence) :
    (b.becomes i sl os).profiles = b.profiles := rfl
@[simp] theorem State.becomes_holdOffTime (b : State) (i : SlotId) (sl : Slot) (os : List Occurrence) :
    (b.becomes i sl os).holdOffTime = b.holdOffTime := rfl
@[simp] theorem State.becomes_slow (b : State) (i : SlotId) (sl : Slot) (os : List Occurrence) :
    (b.becomes i sl os).slow = b.slow := rfl
@[simp] theorem State.becomes_fast (b : State) (i : SlotId) (sl : Slot) (os : List Occurrence) :
    (b.becomes i sl os).fast = b.fast := rfl

/-- The record that the slot has taken. -/
theorem State.slot_becomes_same (b : State) (i : SlotId) (sl : Slot) (os : List Occurrence) :
    (b.becomes i sl os).slot i =
      ({ sl with pendingSet := sl.pendingSet ||| kindsFor (some i) os } : Slot).driven b.slow.lit b.fast.lit :=
  State.slot_setSlot_same b i _

/-- Every other slot's record. -/
@[simp] theorem State.slot_becomes_ne (b : State) {i j : SlotId} (sl : Slot) (os : List Occurrence) (h : j ≠ i) :
    (b.becomes i sl os).slot j = b.slot j :=
  State.slot_setSlot_ne b _ h

/-- Marking a pass due acts on the base. -/
theorem State.markPass_becomes (b : State) (i : SlotId) (sl : Slot) (os : List Occurrence) :
    (b.becomes i sl os).markPass = b.markPass.becomes i sl os := rfl

/-- Leaving the queue acts on the base. -/
theorem State.leaveQueue_becomes (b : State) (i j : SlotId) (sl : Slot) (os : List Occurrence) :
    (b.becomes i sl os).leaveQueue j = (b.leaveQueue j).becomes i sl os := rfl

/-! ### Record updates and occurrences -/

theorem kindsFor_append (who : Option SlotId) (os os' : List Occurrence) :
    kindsFor who (os ++ os') = kindsFor who os ||| kindsFor who os' := by
  induction os with
  | nil => simp [kindsFor]
  | cons o rest ih =>
    simp only [List.cons_append, kindsFor]
    split
    · rw [ih, BitVec.or_assoc]
    · exact ih

/-- Without occurrences nothing is posted. -/
@[simp] theorem State.posting_nil (b : State) : b.posting [] = b := by
  simp [State.posting]

/-- A record update is the form without occurrences. -/
theorem State.upd_eq_becomes (s : State) (i : SlotId) (f : Slot → Slot) :
    s.upd i f = s.becomes i (f (s.slot i)) [] := by
  simp [State.upd, State.setSlot, State.becomes, kindsFor]

/-- The alert condition reads the pending sets and the event unit alone. -/
theorem State.alerting_congr {s t : State} (he : t.events = s.events)
    (hs : ∀ i, (t.slot i).pendingSet = (s.slot i).pendingSet) : t.alerting = s.alerting := by
  simp [State.alerting, he, hs]

/-- Reading a record after one has been put in a vector of records. -/
theorem State.slot_with_set (b : State) (i j : SlotId) (r : Slot) :
    ({ b with slots := b.slots.set i.val r i.isLt } : State).slot j = if j = i then r else b.slot j := by
  by_cases h : j = i
  · subst h; simp [State.slot_eq_getElem]
  · have hv : i.val ≠ j.val := fun e => h (Fin.ext e.symm)
    simp [State.slot_eq_getElem, Vector.getElem_set_ne, hv, h]

/-- The form depends on the record only through what the record shows once driven. -/
theorem State.becomes_congr (b : State) (i : SlotId) {sl g : Slot} (os : List Occurrence)
    (h : ∀ x y, sl.driven x y = g.driven x y) : b.becomes i sl os = b.becomes i g os := by
  have hp : sl.pendingSet = g.pendingSet := by
    have := congrArg Slot.pendingSet (h true true)
    exact this
  have : ({ sl with pendingSet := sl.pendingSet ||| kindsFor (some i) os } : Slot).driven b.slow.lit b.fast.lit =
      ({ g with pendingSet := g.pendingSet ||| kindsFor (some i) os } : Slot).driven b.slow.lit b.fast.lit := by
    have e : ∀ r : Slot, ∀ w x y, ({ r with pendingSet := w } : Slot).driven x y = { r.driven x y with pendingSet := w } :=
      fun _ _ _ _ => rfl
    rw [e sl, e g, h, hp]
  unfold State.becomes
  simp only [this]

/-- A record update that keeps the pending set acts on the record. -/
theorem State.upd_becomes (b : State) (i : SlotId) (sl g : Slot) (os : List Occurrence) (f : Slot → Slot)
    (hf : ∀ p x y, (f (({ sl with pendingSet := p } : Slot).driven x y)).driven x y =
      ({ g with pendingSet := p } : Slot).driven x y) (hp : g.pendingSet = sl.pendingSet) :
    (b.becomes i sl os).upd i f = b.becomes i g os := by
  unfold State.upd
  rw [State.slot_becomes_same]
  unfold State.setSlot
  simp only [State.becomes_slow, State.becomes_fast]
  rw [hf, ← hp]
  have ha : ∀ e : Events, ∀ p : Port,
      ({ b with
          slots := b.slots.set i.val
            (({ sl with pendingSet := sl.pendingSet ||| kindsFor (some i) os } : Slot).driven b.slow.lit b.fast.lit) i.isLt
          events := e, port := p } : State).alerting =
      ({ b with
          slots := b.slots.set i.val
            (({ g with pendingSet := g.pendingSet ||| kindsFor (some i) os } : Slot).driven b.slow.lit b.fast.lit) i.isLt
          events := e, port := p } : State).alerting := by
    intro e p
    refine State.alerting_congr rfl fun j => ?_
    have h1 := State.slot_with_set { b with events := e, port := p } i j
    rw [h1, h1]
    split <;> simp [hp]
  unfold State.becomes State.posting
  simp only [ha, Vector.set_set]

/-- A posting leaves ALERT alone and does not read it. -/
theorem Events.post_with_alert (e : Events) (a : Bool) (w : Option SlotId) (k : EventKind) (now : Word32) :
    ({ e with alert := a } : Events).post w k now = { e.post w k now with alert := a } := by
  unfold Events.post
  dsimp only
  split
  · rfl
  · split <;> rfl

@[simp] theorem Events.post_pendingZero (e : Events) (w : Option SlotId) (k : EventKind) (now : Word32) :
    (e.post w k now).pendingZero = e.pendingZero := by
  obtain ⟨-, h⟩ | ⟨-, -, h⟩ | ⟨-, -, h⟩ := e.post_cases w k now <;> simp [h, Events.lose]

/-- An occurrence of a slot posts to the notice queue and touches nothing else of the event unit. -/
theorem Events.taking_some (e : Events) (now : Word32) (i : SlotId) (k : EventKind) :
    e.taking now (some i, k) = if hasKind e.noticeMask k then e.post (some i) k now else e := by
  unfold Events.taking
  by_cases h : hasKind e.noticeMask k = true
  · have := e.post_pendingZero (some i) k now
    simp only [h, if_true, reduceCtorEq, if_false]
    rw [← this]
  · simp only [h, reduceCtorEq, if_false, Bool.false_eq_true]

theorem Events.foldl_taking_noticeMask (e : Events) (now : Word32) (os : List Occurrence) :
    (os.foldl (fun e o => e.taking now o) e).noticeMask = e.noticeMask := by
  induction os generalizing e with
  | nil => rfl
  | cons o rest ih =>
    rw [List.foldl_cons, ih]
    unfold Events.taking
    dsimp only
    split <;> simp

/-- An occurrence of the slot joins the occurrences of the form. -/
theorem State.occur_becomes (b : State) (i : SlotId) (sl : Slot) (os : List Occurrence) (k : EventKind) :
    (b.becomes i sl os).occur (some i) k = b.becomes i sl (os ++ [(some i, k)]) := by
  have hk : kindsFor (some i) (os ++ [(some i, k)]) = kindsFor (some i) os ||| k.bit := by
    rw [kindsFor_append]; simp [kindsFor]
  have hn : (b.becomes i sl os).events.noticeMask = b.events.noticeMask :=
    Events.foldl_taking_noticeMask _ _ os
  have h1 : ((b.becomes i sl os).upd i fun x =>
      { x with pendingSet := ((b.becomes i sl os).slot i).pendingSet ||| k.bit }) =
      { b.becomes i sl os with
        slots := b.slots.set i.val
          (({ sl with pendingSet := sl.pendingSet ||| kindsFor (some i) (os ++ [(some i, k)]) } : Slot).driven
            b.slow.lit b.fast.lit) i.isLt } := by
    unfold State.upd State.setSlot
    rw [State.slot_becomes_same, hk, ← BitVec.or_assoc]
    simp only [State.becomes_slow, State.becomes_fast]
    unfold State.becomes State.posting
    simp only [Vector.set_set]
    rfl
  unfold State.occur
  dsimp only [State.setPending, State.pendingOf]
  rw [h1]
  unfold State.becomes State.posting
  have hf := Events.foldl_taking_noticeMask b.events b.part.uptime os
  simp only [List.foldl_append, List.foldl_cons, List.foldl_nil, List.any_append, List.any_cons, List.any_nil,
    Bool.or_false]
  generalize List.foldl (fun e o => e.taking b.part.uptime o) b.events os = E at hf ⊢
  generalize (({ sl with pendingSet := sl.pendingSet ||| kindsFor (some i) (os ++ [(some i, k)]) } : Slot).driven
            b.slow.lit b.fast.lit) = R
  have he : (os ++ [(some i, k)]).isEmpty = false := by cases os <;> rfl
  have hm' : hasKind E.noticeMask k = hasKind b.events.noticeMask k := by rw [hf]
  rw [Events.taking_some, hm']
  cases hm : hasKind b.events.noticeMask k with
  | true =>
    simp only [if_true, State.realert, Bool.or_true, he, Bool.false_eq_true, if_false]
    rw [Events.post_with_alert]
    congr 2
  | false =>
    simp only [if_false, State.realert, Bool.or_false, he, Bool.false_eq_true]
    congr 2
/-! ### Operations, cuts and faults -/

/-- The end of an operation in flight (R48), in the form. -/
theorem State.endOperation_becomes (b : State) (i : SlotId) (sl : Slot) (os : List Occurrence) (out : OutcomeKind) :
    (b.becomes i sl os).endOperation i out =
      b.becomes i (sl.ended out b.part.uptime) (os ++ sl.endPosts i) := by
  unfold State.endOperation
  have h : ((b.becomes i sl os).slot i).operation = sl.operation := by rw [State.slot_becomes_same]; rfl
  rw [h]
  cases ho : sl.operation with
  | none => simp [Slot.ended, Slot.endPosts, ho]
  | some o =>
    dsimp only
    rw [State.upd_becomes b i sl (sl.ended out b.part.uptime) os _ (fun _ _ _ => by simp only [Slot.ended, ho]; rfl)
      (by simp only [Slot.ended, ho]), State.occur_becomes]
    simp [Slot.endPosts, ho]

/-- A cut (R62), in the form: the release acts on the accounts of the base, and the record goes without power. -/
theorem State.cut_becomes (b : State) (i : SlotId) (sl : Slot) (os : List Occurrence) (st : PowerState)
    (hc : sl.commitment = (b.slot i).commitment) :
    (b.becomes i sl os).cut i st = (b.afterRelease i).becomes i (sl.off st) os := by
  have h : ((b.becomes i sl os).slot i).commitment = (b.slot i).commitment := by
    rw [State.slot_becomes_same]; exact hc
  unfold State.cut State.cutQuiet State.release State.afterRelease
  rw [h]
  cases hb : (b.slot i).commitment with
  | none =>
    simp only [Option.isSome_none, Bool.false_eq_true, if_false]
    exact State.upd_becomes b i sl (sl.off st) os _
      (fun _ _ _ => by simp only [Slot.off, Slot.stopped]; rw [hc, hb]; rfl) rfl
  | some c =>
    simp only [Option.isSome_some, if_true]
    let b' : State :=
      { b with
        budget.committed := b.budget.committed - c.amount
        admission.inrushHeld := if c.inrush then b.admission.inrushHeld - 1 else b.admission.inrushHeld }
    show (((b'.becomes i sl os).upd i fun sl => { sl with commitment := none }).upd i fun sl => sl.stopped st).markPass = _
    rw [State.upd_becomes b' i sl { sl with commitment := none } os _ (fun _ _ _ => rfl) rfl,
      State.upd_becomes b' i { sl with commitment := none } (sl.off st) os _ (fun _ _ _ => rfl) rfl,
      State.markPass_becomes]
    have hi : (if c.inrush = true then b.admission.inrushHeld - 1 else b.admission.inrushHeld) =
        b.admission.inrushHeld - (if c.inrush = true then 1 else 0) := by split <;> rfl
    congr 1
    simp only [b', State.markPass, hi]

/-- A fault (R99), in the form. -/
theorem State.raiseFault_becomes (b : State) (i : SlotId) (sl : Slot) (os : List Occurrence) (kind : FaultKind)
    (hc : sl.commitment = (b.slot i).commitment) :
    (b.becomes i sl os).raiseFault i kind =
      (b.afterRelease i).becomes i (sl.faulted kind b.part.uptime) (os ++ sl.endPosts i ++ [(some i, .fault)]) := by
  have h : ∀ r x y, ((({ sl with pendingSet := r } : Slot).driven x y).power = sl.power ∧
      (({ sl with pendingSet := r } : Slot).driven x y).opTicket = (sl.operation.map (·.ticket)).getD 0) := by
    intro r x y
    refine ⟨rfl, ?_⟩
    show sl.opTicket = _
    unfold Slot.opTicket
    cases sl.operation <;> rfl
  unfold State.raiseFault
  dsimp only
  rw [State.slot_becomes_same, (h _ _ _).1, (h _ _ _).2, State.becomes_part]
  let sl1 : Slot :=
    { sl with
      lastFault := some ⟨kind, sl.power, (sl.operation.map (·.ticket)).getD 0, b.part.uptime⟩
      faultCount := min 255 (sl.faultCount + 1) }
  rw [State.upd_becomes b i sl sl1 os _ (fun _ _ _ => rfl) rfl, State.cut_becomes b i sl1 os .faulted hc,
    State.endOperation_becomes, State.occur_becomes]
  unfold State.cancelHoldOff
  have hp : (b.afterRelease i).part = b.part := by unfold State.afterRelease; split <;> rfl
  rw [hp]
  cases ho : sl.operation with
  | none =>
    have e1 : (sl1.off .faulted).ended .fault b.part.uptime = sl1.off .faulted := by simp [Slot.ended, Slot.off, sl1, ho]
    have e2 : (sl.off .faulted).ended .fault b.part.uptime = sl.off .faulted := by simp [Slot.ended, Slot.off, ho]
    have e3 : (sl1.off .faulted).endPosts i = sl.endPosts i := rfl
    rw [e1, e3]
    refine State.upd_becomes _ i _ _ _ _ (fun _ _ _ => ?_) ?_
    · simp only [Slot.faulted, e2]; rfl
    · simp only [Slot.faulted, e2]; rfl
  | some o =>
    have e2 : (sl.off .faulted).ended .fault b.part.uptime =
        { sl.off .faulted with
          operation := none, lastOutcome := some ⟨o.kind, o.ticket, o.origin, .fault, none, b.part.uptime⟩ } := by
      simp [Slot.ended, Slot.off, ho]
    have e1 : (sl1.off .faulted).ended .fault b.part.uptime =
        { sl1.off .faulted with
          operation := none, lastOutcome := some ⟨o.kind, o.ticket, o.origin, .fault, none, b.part.uptime⟩ } := by
      simp [Slot.ended, Slot.off, sl1, ho]
    have e3 : (sl1.off .faulted).endPosts i = sl.endPosts i := rfl
    rw [e1, e3]
    refine State.upd_becomes _ i _ _ _ _ (fun _ _ _ => ?_) ?_
    · simp only [Slot.faulted, e2]; rfl
    · simp only [Slot.faulted, e2]; rfl

/-- An entry is placed behind those of its own or a higher priority (R26). -/
theorem placeEntry_eq_queueWith (e : QueueEntry) (q : List QueueEntry) : placeEntry e q = queueWith e q := by
  induction q with
  | nil => rfl
  | cons x xs ih =>
    unfold placeEntry
    by_cases h : e.priority ≤ x.priority
    · simp [h, ih, queueWith]
    · simp [h, queueWith]

/-- The ticket counter after a ticket (R47). -/
theorem nextTicket_eq_ticketAfter (t : Nat) : nextTicket t = ticketAfter t := by
  unfold nextTicket ticketAfter
  split <;> split <;> omega

/-- Joining the queue (R23), in the form. -/
theorem State.joinQueue_becomes (b : State) (i : SlotId) (sl : Slot) (os : List Occurrence) (origin : Origin)
    (mark : Bool) (hp : sl.priority = (b.slot i).priority) :
    (b.becomes i sl os).joinQueue i origin mark =
      (b.afterJoin i origin mark).becomes i (sl.joined origin b.part.ticketCounter b.part.uptime) os := by
  let op : Operation := ⟨.powerOn, b.part.ticketCounter, origin, b.part.uptime⟩
  have h1 : (b.becomes i sl os).startOperation i .powerOn origin =
      b.advanceTicket.becomes i { sl with operation := some op, autoPending := false } os := by
    refine (congrArg State.advanceTicket (State.upd_becomes b i sl { sl with operation := some op, autoPending := false }
      os _ (fun _ _ _ => ?_) rfl)).trans rfl
    simp only [OpKind.isLock, Bool.and_false]
    rfl
  unfold State.joinQueue
  dsimp only
  rw [h1, State.slot_becomes_same]
  have hs : ∀ t, satInc stampTop t = min 4294967295 (t + 1) := fun _ => rfl
  let b' : State :=
    { b.advanceTicket with
      admission.enqueueCounter := satInc stampTop b.admission.enqueueCounter
      admission.queue := placeEntry
        ⟨i, sl.priority, satInc stampTop b.admission.enqueueCounter, origin, b.part.ticketCounter, 0, mark⟩
        b.admission.queue
      admission.passDue := true }
  have ha : b.afterJoin i origin mark = b' := by
    unfold State.afterJoin
    simp only [b', State.advanceTicket, placeEntry_eq_queueWith, nextTicket_eq_ticketAfter, hs, hp]
  rw [ha]
  exact State.upd_becomes b' i { sl with operation := some op, autoPending := false }
    (sl.joined origin b.part.ticketCounter b.part.uptime) os _ (fun _ _ _ => rfl) rfl

/-- The POWER-ON checks pass exactly when the slot may power on (R21). -/
theorem Slot.powerOnCheck_none (sl : Slot) : sl.powerOnCheck = none ↔ sl.mayPowerOn := by
  unfold Slot.powerOnCheck Slot.mayPowerOn Slot.lockOp
  cases ho : sl.operation with
  | none => simp only [Option.not_mem_none]; split_ifs <;> simp_all
  | some o => cases hk : o.kind <;> simp only [OpKind.isLock, hk] <;> split_ifs <;> simp_all

/-- The auto-start attempt (R122), in the form. -/
theorem State.autoAttempt_becomes (b : State) (i : SlotId) (sl : Slot) (os : List Occurrence)
    (hp : sl.priority = (b.slot i).priority) :
    (b.becomes i sl os).autoAttempt i = b.becomesOrStarts i sl os := by
  have hr : ∀ p x y, ((({ sl with pendingSet := p } : Slot).driven x y).power = .idle ∧
      (({ sl with pendingSet := p } : Slot).driven x y).autoStart = true ∧
      (({ sl with pendingSet := p } : Slot).driven x y).autoPending = true ∧
      (({ sl with pendingSet := p } : Slot).driven x y).powerOnCheck = none) ↔ sl.autoStarts := by
    intro p x y
    rw [Slot.powerOnCheck_none]
    exact Iff.rfl
  unfold State.autoAttempt State.becomesOrStarts
  rw [State.slot_becomes_same]
  dsimp only
  by_cases h : sl.autoStarts
  · rw [if_pos ((hr _ _ _).2 h), if_pos h, State.joinQueue_becomes b i sl os .auto false hp]
  · rw [if_neg (fun e => h ((hr _ _ _).1 e)), if_neg h]

/-! ### The same operations on any state -/

/-- The end of an operation in flight, on any state. -/
theorem State.endOperation_eq_becomes (s : State) (i : SlotId) (out : OutcomeKind)
    (h : (s.slot i).operation.isSome = true) :
    s.endOperation i out = s.becomes i ((s.slot i).ended out s.part.uptime) ((s.slot i).endPosts i) := by
  obtain ⟨o, ho⟩ := Option.isSome_iff_exists.1 h
  unfold State.endOperation
  rw [ho]
  dsimp only
  rw [State.upd_eq_becomes, State.occur_becomes]
  simp only [Slot.ended, Slot.endPosts, ho, Option.isSome_some, if_true, List.nil_append]
  rfl

/-- A cut, on any state. -/
theorem State.cut_eq_becomes (s : State) (i : SlotId) (st : PowerState) :
    s.cut i st = (s.afterRelease i).becomes i ((s.slot i).off st) [] := by
  unfold State.cut State.cutQuiet State.release State.afterRelease
  cases hb : (s.slot i).commitment with
  | none =>
    simp only [Option.isSome_none, Bool.false_eq_true, if_false]
    rw [State.upd_eq_becomes]
    congr 1
    simp only [Slot.off, Slot.stopped, ← hb]
  | some c =>
    simp only [Option.isSome_some, if_true]
    let b' : State :=
      { s with
        budget.committed := s.budget.committed - c.amount
        admission.inrushHeld := if c.inrush then s.admission.inrushHeld - 1 else s.admission.inrushHeld }
    show ((b'.upd i fun sl => { sl with commitment := none }).upd i fun sl => sl.stopped st).markPass = _
    rw [State.upd_eq_becomes b',
      State.upd_becomes b' i { b'.slot i with commitment := none } ((s.slot i).off st) [] _ (fun _ _ _ => rfl) rfl,
      State.markPass_becomes]
    have hi : (if c.inrush = true then s.admission.inrushHeld - 1 else s.admission.inrushHeld) =
        s.admission.inrushHeld - (if c.inrush = true then 1 else 0) := by split <;> rfl
    congr 1
    simp only [b', State.markPass, hi]

/-- Joining the queue, on any state. -/
theorem State.joinQueue_eq_becomes (s : State) (i : SlotId) (origin : Origin) (mark : Bool) :
    s.joinQueue i origin mark =
      (s.afterJoin i origin mark).becomes i ((s.slot i).joined origin s.part.ticketCounter s.part.uptime) [] := by
  have h : s.joinQueue i origin mark = (s.upd i id).joinQueue i origin mark := by
    unfold State.joinQueue State.startOperation
    dsimp only
    have hu : ∀ f : Slot → Slot, (∀ x y sl, (f (sl.driven x y)).driven x y = (f sl).driven x y) →
        (s.upd i id).upd i f = s.upd i f := by
      intro f hf
      unfold State.upd State.setSlot
      simp only [id]
      rw [State.slot_with_set]
      simp only [if_true, Vector.set_set, hf]
    rw [hu]
    · rfl
    · intro _ _ _; rfl
  rw [h, State.upd_eq_becomes, State.joinQueue_becomes s i (id (s.slot i)) [] origin mark rfl]
  rfl

end Sys2Proof.Machine
end

