-- ==== Sys2Proof/Laws/Time.lean ====
section
/-! SUPPORT. What a step of the block is, said once: the command in front, a happening that is due, or a tick. -/
namespace Sys2Proof.Machine

/-- The part can always do something of its own: where nothing of the present tick is owed, the tick itself. -/
theorem State.moves_ne_nil (s : State) : s.moves ≠ [] := by
  unfold State.moves
  cases h : s.dueNow with
  | nil => simp
  | cons c rest => simp [State.dueHappenings, h]

/-- A happening is open exactly while it is owed. -/
theorem State.some_mem_moves {s : State} {c : Instr} : some c ∈ s.moves ↔ c ∈ s.dueHappenings := by
  unfold State.moves
  split <;> simp

/-- A tick is open exactly while nothing of the present tick is owed. -/
theorem State.none_mem_moves {s : State} : none ∈ s.moves ↔ s.dueNow = [] := by
  unfold State.moves
  split <;> simp_all

/-- What the part chooses is one of its open moves, and the choice touches nothing but its own counter. -/
theorem State.choose_cases (s : State) :
    ∃ m ∈ s.moves, s.choose = (m, s) ∨ s.choose = (m, { s with choices := s.choices + 1 }) := by
  have hne := s.moves_ne_nil
  unfold State.choose
  split
  · contradiction
  · rename_i m h
    exact ⟨m, by simp [h], .inl rfl⟩
  · rename_i m m' rest h
    have hlt : Config.choice s.choices % (rest.length + 2) < (m :: m' :: rest).length := Nat.mod_lt _ (by omega)
    refine ⟨_, ?_, .inr rfl⟩
    rw [h, List.getD_eq_getElem _ _ hlt]
    exact List.getElem_mem hlt

/-- All that a step can be: the command in front, a happening that is due, or a tick with nothing owed at it. Where the
part chose among several moves, the choice counter has moved. -/
theorem step_cases {s s' : State} (h : step s = .next s') :
    (∃ c rest, s.pending = c :: rest ∧ exec c { s with pending := rest } = .next s') ∨
    (s.pending = [] ∧ ∃ u, (u = s ∨ u = { s with choices := s.choices + 1 }) ∧
      ((∃ c ∈ s.dueHappenings, exec c u = .next s') ∨ (s.dueNow = [] ∧ s' = u.tick))) := by
  unfold step at h
  split at h
  · exact .inl ⟨_, _, ‹_›, h⟩
  · refine .inr ⟨‹_›, ?_⟩
    obtain ⟨m, hm, hc⟩ := s.choose_cases
    unfold idle at h
    have take (u : State) (hu : s.choose = (m, u)) :
        (∃ c ∈ s.dueHappenings, exec c u = .next s') ∨ (s.dueNow = [] ∧ s' = u.tick) := by
      rw [hu] at h
      cases m with
      | none => exact .inr ⟨State.none_mem_moves.1 hm, by simpa using h.symm⟩
      | some c => exact .inl ⟨c, State.some_mem_moves.1 hm, h⟩
    exact hc.elim (fun hu => ⟨s, .inl rfl, take s hu⟩) fun hu => ⟨_, .inr rfl, take _ hu⟩

end Sys2Proof.Machine
end

