-- ==== Sys2Proof/Tests/Slice0.lean ====
section
/-! SUPPORT. Tests of the model: ill-formed commands, the code tables, a few steps of the manual's worked sequences, and
for every statement with hypotheses a concrete state and operands that meet them, one for each of its clauses. -/
namespace Sys2Proof.Machine.Tests

/-! ### Small states -/

/-- The state after reset with another record in slot 1. -/
def at0 (sl : Slot) : State := { State.reset with slots := State.reset.slots.set 0 sl }

/-- The same with another record in slot 24. -/
def at23 (sl : Slot) : State := { State.reset with slots := State.reset.slots.set 23 sl }

/-- A request of tag 7 waits alone in the request queue. -/
def asked (s : State) (kind : Byte) (payload : List Byte) : State :=
  { s with port.requests := [⟨7, kind, payload, none⟩] }

/-- The same request in a frozen part. -/
def frozen (s : State) : State := { s with part.frozen := true }

/-- The state after reset with another message port. -/
def withPort (p : Port) : State := { State.reset with port := p }

/-- A receiver in this state. -/
def receiving (r : Receiver) : State := withPort { Port.reset 0 with receiver := r }

/-- A line at a level in its debounced form and at its pin. -/
def still (v : Bool) : Line := ⟨v, v, 0⟩

/-- A module of class 0 in its bay with the lever closed, IDLE. -/
def idleSlot : Slot :=
  { Slot.reset with
    lines := { BayLines.down with present := still true, lever := still true }
    moduleClass := some 0, power := .idle }

/-- An operation with ticket 5. -/
def op (k : OpKind) : Operation := ⟨k, 5, .host, 0⟩

/-- A slot with a module in this state, with the operation and the commitment of 25.0 W that the state calls for. -/
def inState (st : PowerState) : Slot :=
  { idleSlot with
    power := st
    operation :=
      if st = .drain then some (op .powerOff)
      else if st = .waiting ∨ (st.powered = true ∧ st ≠ .on) then some (op .powerOn) else none
    commitment := if st.powered then some ⟨250, 1, st.inrush⟩ else none }

/-- A slot with a lock fitted and a lock operation in flight, its sense at a level. -/
def locking (k : OpKind) (sense : Bool) : Slot :=
  { idleSlot with
    hardware.lockFitted := true, operation := some (op k), lockTimer := some 500
    lines := { idleSlot.lines with lockSense := still sense } }

/-- A disabled slot with this record otherwise. -/
def disabled (sl : Slot) : Slot := { sl with hardware.enabled := false, power := .vacant, moduleClass := none }

/-- The queue entry of slot 1. -/
def entry0 : QueueEntry := ⟨0, 3, 1, .host, 5, 0, false⟩

/-- Slot 1 waits alone, and 30.0 W are available. -/
def waiting0 : State :=
  { at0 (inState .waiting) with
    budget := { Budget.reset with supplies := Budget.reset.supplies.set 0 ⟨still true, 300, 0⟩, ceiling := 300 }
    admission := { Admission.reset with queue := [entry0], enqueueCounter := 1, passDue := true } }

/-- Slot 1 is ON with 25.0 W of 30.0 W from supply 1, which is good. -/
def on0 : State :=
  { at0 (inState .on) with
    budget :=
      { Budget.reset with
        supplies := Budget.reset.supplies.set 0 ⟨still true, 300, 0⟩, ceiling := 300, committed := 250 } }

/-- The next state that an outcome answers, or the state after reset. -/
def nextOf : Host.Outcome State Fault Refusal → State
  | .next t => t
  | .fault _ => .reset
  | .refused _ => .reset

/-! ### Ill-formed commands -/

theorem test_tag_zero_is_ill_formed : (Instr.identify 0 []).wellFormed = false := by decide

theorem test_payload_of_121_bytes_is_ill_formed :
    (Instr.setBudget 1 (List.replicate 121 0)).wellFormed = false ∧
      (Instr.setBudget 1 (List.replicate 120 0)).wellFormed = true := by decide +kernel

theorem test_bad_kind_of_a_request_code_is_ill_formed :
    (Instr.badKind 1 0x7F []).wellFormed = false ∧ (Instr.badKind 1 0x7E []).wellFormed = true := by decide

/-! ### The tables of codes and the check (R156) -/

theorem test_request_codes :
    requestCommand 1 0x14 [] = .ackEvents 1 [] ∧ requestCommand 1 0x25 [] = .setIndicator 1 [] ∧
      requestCommand 1 0x3F [] = .freeze 1 [] ∧ requestCommand 1 0x7F [] = .restart 1 [] ∧
      requestCommand 1 0x38 [] = .badKind 1 0x38 [] := by decide

theorem test_request_codes_are_those_of_the_rows :
    ∀ kind ∈ requestCodes, (requestCommand 1 kind []).request = some (1, kind, []) ∧
      (requestCommand 1 kind []).isBadKind = false := by decide

theorem test_status_codes :
    Status.noModule.code = 0x13 ∧ Status.overCommitted.code = 0x19 ∧ Status.badSlot.code = 0x20 ∧
      Status.portFull.code = 0x27 := by decide

/-- The check value of this well known cyclic check over "123456789" (the manual prints no example). -/
theorem test_check_value : crc [0x31, 0x32, 0x33, 0x34, 0x35, 0x36, 0x37, 0x38, 0x39] = 0x29B1 := by decide +kernel

/-- The largest notice: an OP_DONE of slot 24 (the notice table of R156). -/
theorem test_notice_payload :
    NoticeFrame.payload ⟨some 23, .event .opDone, 255, 0x01020304, some .faulted, 0x0506, some .discarded⟩ =
      [24, 6, 255, 1, 2, 3, 4, 9, 5, 6, 12] := by decide

/-! ### Worked values and sequences of the manual -/

/-- "Worked values of the ceiling" of chapter 1: three supplies of 1200.0, 1200.0 and 800.0 W and a reserve of 100.0 W. -/
def workedSupplies (g1 g2 g3 : Bool) : Vector Supply 4 :=
  #v[⟨still g1, 12000, 0⟩, ⟨still g2, 12000, 0⟩, ⟨still g3, 8000, 0⟩, ⟨still false, 0, 0⟩]

theorem test_worked_ceilings :
    ceilingFor (workedSupplies true true true) 1000 .full = 31000 ∧
      ceilingFor (workedSupplies true true true) 1000 .redundant = 19000 ∧
      ceilingFor (workedSupplies true false true) 1000 .redundant = 7000 ∧
      ceilingFor (workedSupplies false false true) 1000 .redundant = 0 ∧
      ceilingFor (workedSupplies false false false) 1000 .full = 0 := by decide

/-- "Example: a supply line glitch" of chapter 1: nine samples are not enough, the tenth makes the change due. -/
theorem test_supply_glitch :
    (Line.sample^[9] ⟨false, true, 0⟩).dueAfter 10 = false ∧ (Line.sample^[10] ⟨false, true, 0⟩).dueAfter 10 = true := by
  decide

/-- 9.10: a frame that repeats a held tag makes a DUP_TAG reject of that tag, which waits behind the line's frame. -/
theorem test_repeated_tag :
    (nextOf (exec (.byteReceived ((frameCheck 0 7 1 []).extractLsb' 0 8))
      (withPort
        { Port.reset 0 with
          receiver := .checkLow 0 7 1 [] ((frameCheck 0 7 1 []).extractLsb' 8 8)
          requests := [⟨7, 1, [], none⟩], sending := some (.reply 0x11 3 [0]) }))).port.ready =
      [.reject .dupTag 7] := by decide +kernel

/-- A pass admits the one entry that fits, and AUX_EN is raised (R39, R55). -/
theorem test_admission :
    let t := nextOf (exec .admissionPass waiting0)
    (t.slot 0).power = .auxRamp ∧ (t.slot 0).out.auxEn = true ∧ (t.slot 0).stageTimer = some 100 ∧
      t.budget.committed = 250 ∧ t.admission.inrushHeld = 1 ∧ t.admission.queue = [] := by decide

/-- With the only supply lost, its load is shed (4.7). -/
theorem test_shedding :
    let t := nextOf (exec (.supplyGoodChange 0 false) on0)
    (t.slot 0).power = .idle ∧ t.budget.committed = 0 ∧ t.budget.ceiling = 0 ∧ t.events.alert = true := by decide

/-- An overcurrent in ON: FAULTED with the record and the count (5.7). -/
theorem test_overcurrent :
    let t := nextOf (exec (.faultLineRises 0) on0)
    (t.slot 0).lastFault = some ⟨.overcurrent, .on, 0, 0⟩ ∧ (t.slot 0).faultCount = 1 ∧ (t.slot 0).out.mainEn = false := by
  decide

/-- The first step from reset with nothing queued is a tick. -/
theorem test_first_tick : (nextOf (step .reset)).part.uptime = 1 := by decide

/-! ### Witnesses: steps and time -/

theorem witness_StepWithoutCommand :
    (State.reset.pending = [] ∧ State.reset.moves = [none]) ∧
    (waiting0.pending = [] ∧ waiting0.moves = [some .admissionPass]) ∧
    (let s := asked .reset 0x01 []
     s.pending = [] ∧ s.moves = [some (.identify 7 []), none] ∧ 2 ≤ s.moves.length) ∧
    (let s := asked waiting0 0x01 []
     s.pending = [] ∧ s.moves = [some .admissionPass, some (.identify 7 [])] ∧ 2 ≤ s.moves.length) := by decide

theorem witness_TickCounts :
    (receiving .headerLen).port.receiver ≠ .hunt ∧ State.reset.port.receiver = .hunt := by decide

theorem witness_LinesAreDebounced :
    ((⟨true, false, 0⟩ : Line).level ≠ false ∧ (⟨true, false, 0⟩ : Line).count = 0) ∧
      (⟨true, true, 9⟩ : Line).level = (⟨true, true, 9⟩ : Line).held ∧ 0 < 2 ∧ State.reset.wires = [] ∧
      (let s := { State.reset with wires := [[(.present 3, true), (.restart, true)], []] }
       s.wires = [(.present 3, true), (.restart, true)] :: [[]]) := by decide

/-! ### Witnesses: requests of the port and of the part -/

theorem witness_WrongKindOrLength :
    ((Instr.identify 7 [0]).request = some (7, 0x01, [0]) ∧ payloadLength (.identify 7 [0]) = some 0 ∧
      (asked .reset 0x01 [0]).Owes 0x01 7 [0]) ∧
    ((Instr.setBudget 7 [0]).request = some (7, 0x33, [0]) ∧ payloadLength (.setBudget 7 [0]) = some 9 ∧
      (asked .reset 0x33 [0]).Owes 0x33 7 [0]) ∧
    (∀ kind ∈ ([0x00, 0x05, 0x7E, 0xFF] : List Byte), kind ∉ requestCodes ∧ (asked .reset kind []).Owes kind 7 []) := by
  decide

theorem witness_Identify : (asked .reset 0x01 []).Owes 0x01 7 [] := by decide

theorem witness_GrantAndReadLink :
    (∀ a ∈ ([0, 64, 255] : List Byte), (asked .reset 0x02 [a]).Owes 0x02 7 [a]) ∧
      ∀ b ∈ ([0, 1, 2, 255] : List Byte), (asked .reset 0x03 [b]).Owes 0x03 7 [b] := by decide

theorem witness_SetNotices :
    (asked .reset 0x04 [7, 255, 7, 255]).Owes 0x04 7 [7, 255, 7, 255] ∧
      (asked .reset 0x04 [8, 0, 7, 0]).Owes 0x04 7 [8, 0, 7, 0] ∧
      (asked .reset 0x04 [7, 0, 8, 0]).Owes 0x04 7 [7, 0, 8, 0] := by decide

theorem witness_ReadSlot :
    (∀ i ∈ ([0, 23] : List SlotId), (asked .reset 0x10 [slotByte i]).Owes 0x10 7 [slotByte i]) ∧
      ∀ n ∈ ([0, 25, 255] : List Byte), (n.toNat = 0 ∨ 24 < n.toNat) ∧ (asked .reset 0x10 [n]).Owes 0x10 7 [n] := by
  decide

theorem witness_ReadQueueAndBudget :
    (asked waiting0 0x11 []).Owes 0x11 7 [] ∧ (asked waiting0 0x12 []).Owes 0x12 7 [] := by decide

theorem witness_ReadAndAckEvents :
    (∀ n ∈ ([255, 0, 1, 24, 25, 254] : List Byte), (asked .reset 0x13 [n]).Owes 0x13 7 [n]) ∧
      (∀ p ∈ ([[1, 0, 255], [24, 1, 0], [0, 7, 0], [0, 0, 1], [0, 8, 0], [25, 0, 0]] : List (List Byte)),
        (asked .reset 0x14 p).Owes 0x14 7 p) ∧
      slotByte 0 = 1 ∧ slotByte 23 = 24 := by decide

theorem witness_Profiles :
    (∀ n ∈ ([0, 3, 4, 255] : List Byte), (asked .reset 0x15 [n]).Owes 0x15 7 [n]) ∧
      (∀ p ∈ ([[4, 0, 0, 0, 0, 0, 0, 0], [3, 15, 0, 0, 0, 0, 0, 0], [3, 0, 15, 0, 0, 0, 0, 0], [3, 0, 0, 7, 0xD1, 0, 0, 0],
          [3, 0, 0, 0, 0, 2, 0, 0], [3, 0, 0, 0, 0, 0, 16, 0], [3, 0, 0, 0, 0, 0, 0, 16]] : List (List Byte)),
        (asked .reset 0x34 p).Owes 0x34 7 p) ∧
      (asked .reset 0x34 [3, 14, 14, 7, 0xD0, 1, 15, 15]).Owes 0x34 7 [3, 14, 14, 7, 0xD0, flagByte true, 15, 15] ∧
      ((7 : Byte) ++ (0xD0 : Byte) : Word16).toNat = 2000 := by decide

/-! ### Witnesses: requests to a slot -/

theorem witness_PowerOnJoins :
    (asked (at0 idleSlot) 0x20 [1]).Owes 0x20 7 [slotByte 0] ∧
      ((asked (at0 idleSlot) 0x20 [1]).slot 0).power = .idle ∧
      ((asked (at0 idleSlot) 0x20 [1]).slot 0).mayPowerOn ∧
      (asked (at23 idleSlot) 0x20 [24]).Owes 0x20 7 [slotByte 23] ∧
      ((asked (at23 idleSlot) 0x20 [24]).slot 23).mayPowerOn := by decide

/-- The reply that PowerOnWithoutJoin names for a record, as its hypothesis writes it. -/
abbrev refusedWith (sl : Slot) (reply : List Byte) : Prop :=
  if sl.hardware.enabled = false then reply = [0x12, 0, 0]
  else if sl.power = .faulted then reply = [0x14, 0, 0]
  else if sl.lines.present.held = false then reply = [0x13, 0, 0]
  else if sl.lines.lever.held = false then reply = [0x15, 0, 0]
  else if sl.hardware.lockFitted = true ∧ sl.lines.lockSense.held = false then reply = [0x16, 0, 0]
  else if ∃ o ∈ sl.operation, o.kind = .lock ∨ o.kind = .unlock then reply = [0x10, 0, 0]
  else if sl.power = .on then reply = 0x03 :: u16 ((sl.lastOutcome.map (·.ticket)).getD 0)
  else if sl.power = .drain then reply = [0x10, 0, 0]
  else if sl.power = .idle ∨ sl.power = .vacant then False
  else ∃ o ∈ sl.operation, reply = 0x03 :: u16 o.ticket

theorem witness_PowerOnWithoutJoin :
    (∀ x ∈ ([(disabled idleSlot, [0x12, 0, 0]), (inState .faulted, [0x14, 0, 0]), (Slot.reset, [0x13, 0, 0]),
        ({ idleSlot with lines.lever := still false }, [0x15, 0, 0]),
        ({ idleSlot with hardware.lockFitted := true }, [0x16, 0, 0]), (locking .unlock true, [0x10, 0, 0]),
        (inState .on, [0x03, 0, 0]), (inState .drain, [0x10, 0, 0])] : List (Slot × List Byte)),
      refusedWith x.1 x.2 ∧ (asked (at0 x.1) 0x20 [1]).Owes 0x20 7 [slotByte 0]) ∧
    (inState .waiting).operation = some (op .powerOn) ∧ (inState .readyWait).operation = some (op .powerOn) ∧
    ∀ n ∈ ([0, 25, 255] : List Byte), (n.toNat = 0 ∨ 24 < n.toNat) ∧ (asked .reset 0x20 [n]).Owes 0x20 7 [n] := by
  decide

theorem witness_PowerOnWithoutJoin_in_flight :
    refusedWith (inState .waiting) [0x03, 0, 5] ∧ refusedWith (inState .readyWait) [0x03, 0, 5] := by decide

theorem witness_PowerOffBeforeOn :
    (∀ st ∈ ([.vacant, .idle, .faulted, .waiting, .auxRamp, .mainRamp, .settle, .readyWait] : List PowerState),
      ∀ force : Bool, (asked (at0 (inState st)) 0x21 [1, flagByte force]).Owes 0x21 7 [slotByte 0, flagByte force] ∧
        ((asked (at0 (inState st)) 0x21 [1, flagByte force]).slot 0).power = st) ∧
    (∀ st ∈ ([.waiting, .auxRamp, .mainRamp, .settle, .readyWait] : List PowerState),
      ((at0 (inState st)).slot 0).operation = some (op .powerOn)) ∧
    (∀ n ∈ ([0, 25] : List Byte), (asked .reset 0x21 [n, 0]).Owes 0x21 7 [n, 0]) ∧
    ∀ f ∈ ([2, 255] : List Byte), (asked .reset 0x21 [1, f]).Owes 0x21 7 [slotByte 0, f] := by decide

theorem witness_PowerOffInOnAndDrain :
    (∀ force ∈ ([0, 1] : List Byte), (asked on0 0x21 [1, force]).Owes 0x21 7 [slotByte 0, force] ∧
      ((asked on0 0x21 [1, force]).slot 0).power = .on ∧
      (asked (at0 (inState .drain)) 0x21 [1, force]).Owes 0x21 7 [slotByte 0, force]) ∧
    ((at0 (inState .drain)).slot 0).power = .drain ∧
    ((at0 (inState .drain)).slot 0).operation = some (op .powerOff) := by decide

theorem witness_ClearFault :
    (∀ clear : Bool, (asked (at0 (inState .faulted)) 0x22 [1, flagByte clear]).Owes 0x22 7 [slotByte 0, flagByte clear]) ∧
      (∀ n ∈ ([0, 25, 255] : List Byte), (asked .reset 0x22 [n, 0]).Owes 0x22 7 [n, 0]) ∧
      ∀ f ∈ ([2, 255] : List Byte), (asked .reset 0x22 [1, f]).Owes 0x22 7 [slotByte 0, f] := by decide

theorem witness_LockAndUnlock :
    ∀ engage : Bool,
      let kind : Byte := if engage then 0x23 else 0x24
      (∀ sl ∈ ([disabled idleSlot, idleSlot, { inState .on with hardware.lockFitted := true }, locking .lock false,
          { idleSlot with hardware.lockFitted := true }] : List Slot),
        (asked (at0 sl) kind [1]).Owes kind 7 [slotByte 0]) ∧
      (∀ n ∈ ([0, 25, 255] : List Byte), (asked .reset kind [n]).Owes kind 7 [n]) := by decide

theorem witness_SetIndicator :
    (asked .reset 0x25 [1, 3, 1, 2, 0]).Owes 0x25 7
        [slotByte 0, BitVec.ofNat 8 IndMode.blinkFast.code, flagByte true, BitVec.ofNat 8 IndMode.blinkSlow.code,
          flagByte false] ∧
      (∀ p ∈ ([[1, 4, 0, 0, 0], [1, 0, 2, 0, 0], [1, 0, 0, 4, 0], [1, 0, 0, 0, 2], [0, 0, 0, 0, 0], [25, 0, 0, 0, 0]] :
          List (List Byte)),
        (asked .reset 0x25 p).Owes 0x25 7 p) := by decide

theorem witness_SetSlot :
    (∀ p ∈ ([[0, 0, 0, 0, 0, 0, 0, 0], [25, 0, 0, 0, 0, 0, 0, 0], [1, 8, 0, 0, 0, 0, 0, 0], [1, 7, 4, 0, 0, 0, 0, 0],
        [1, 7, 3, 0x4E, 0x21, 0, 0, 0], [1, 7, 3, 0xFF, 0xFE, 1, 1, 1], [1, 0, 0, 0, 0, 2, 0, 0]] : List (List Byte)),
      (asked .reset 0x30 p).Owes 0x30 7 p ∧ ((asked .reset 0x30 p).slot 0).hardware.enabled = true) ∧
    ((asked (at0 (disabled idleSlot)) 0x30 [1, 3, 0, 0, 0, 0, 0, 0]).Owes 0x30 7 [slotByte 0, 3, 0, 0, 0, 0, 0, 0] ∧
      ((at0 (disabled idleSlot)).slot 0).hardware.enabled = false) ∧
    (asked waiting0 0x30 [1, 7, 3, 0x4E, 0x20, 1, 1, 1]).Owes 0x30 7
      (slotByte 0 :: ([BitVec.ofNat 8 7, BitVec.ofNat 8 3] ++ u16 ((some 20000).getD 65535) ++
        [BitVec.ofNat 8 ButtonPolicy.toggle.code, flagByte true, flagByte true])) ∧
    (asked waiting0 0x30 [1, 3, 0, 0xFF, 0xFF, 0, 0, 0]).Owes 0x30 7
      (slotByte 0 :: ([BitVec.ofNat 8 3, BitVec.ofNat 8 0] ++ u16 ((none : Option Nat).getD 65535) ++
        [BitVec.ofNat 8 ButtonPolicy.eventOnly.code, flagByte false, flagByte false])) ∧
    (waiting0.slot 0).power = .waiting ∧ (waiting0.slot 0).priority = 3 ∧ (waiting0.slot 0).hardware.enabled = true ∧
    waiting0.admission.queue.find? (fun e => decide (e.slot = 0)) = some entry0 := by decide

/-- A record for each case of SET-HARDWARE, and the three settings it is asked to take. -/
def hardwareCases : List (Slot × Bool × Bool × Bool) :=
  [(idleSlot, true, false, true), (idleSlot, false, false, false), (locking .lock false, false, true, false),
    (disabled Slot.reset, true, true, true),
    (disabled { idleSlot with autoStart := false }, true, false, false),
    (disabled { idleSlot with autoStart := true }, true, false, false)]

theorem witness_SetHardware :
    (∀ p ∈ ([[0, 0, 0, 0], [25, 0, 0, 0], [1, 2, 0, 0], [1, 0, 2, 0], [1, 0, 0, 2]] : List (List Byte)),
      (asked .reset 0x31 p).Owes 0x31 7 p) ∧
    ((asked (frozen (at0 idleSlot)) 0x31 [1, 1, 0, 0]).Owes 0x31 7 [slotByte 0, flagByte true, flagByte false, flagByte false] ∧
      (asked (frozen (at0 idleSlot)) 0x31 [1, 1, 0, 0]).part.frozen = true) ∧
    ((asked on0 0x31 [1, 1, 0, 0]).Owes 0x31 7 [slotByte 0, flagByte true, flagByte false, flagByte false] ∧
      (on0.slot 0).power = .on) ∧
    ((asked (at0 (locking .lock false)) 0x31 [1, 1, 0, 0]).Owes 0x31 7
        [slotByte 0, flagByte true, flagByte false, flagByte false] ∧
      (locking .lock false).operation = some (op .lock) ∧ (locking .lock false).hardware.lockFitted = true) ∧
    ∀ x ∈ hardwareCases,
      (asked (at0 x.1) 0x31 [1, flagByte x.2.1, flagByte x.2.2.1, flagByte x.2.2.2]).Owes 0x31 7
          [slotByte 0, flagByte x.2.1, flagByte x.2.2.1, flagByte x.2.2.2] ∧
        (x.1.power = .vacant ∨ x.1.power = .idle) ∧
        ((∃ o ∈ x.1.operation, o.kind = .lock ∨ o.kind = .unlock) →
          x.2.2.1 = x.1.hardware.lockFitted ∧ (x.2.1 = false ∨ x.2.1 = x.1.hardware.enabled)) := by decide

/-! ### Witnesses: settings of the part -/

theorem witness_SetSupply :
    (∀ p ∈ ([[0, 0, 0], [5, 0, 0], [1, 0x75, 0x31]] : List (List Byte)), (asked .reset 0x32 p).Owes 0x32 7 p) ∧
    (∀ p ∈ ([[1, 0, 0], [1, 1, 0x2C], [2, 0x75, 0x30], [4, 0, 0]] : List (List Byte)),
      (asked on0 0x32 p).Owes 0x32 7 p ∧ (asked (frozen on0) 0x32 p).Owes 0x32 7 p) ∧
    on0.budget.ceiling = on0.budget.computed ∧ (on0.budget.supplies.get 0).line.held = true ∧
    (on0.budget.supplies.get 1).line.held = false ∧
    ceilingFor (on0.budget.supplies.set 0 ⟨still true, 0, 0⟩) on0.budget.reserve on0.budget.mode < on0.budget.committed ∧
    (on0.budget.supplies.get 0).capacity = ((1 : Byte) ++ (0x2C : Byte) : Word16).toNat := by decide

theorem witness_SetBudget :
    (∀ p ∈ ([[0, 1, 0xD4, 0xC1, 0, 0, 4, 2, 5], [0, 0, 0, 0, 2, 0, 4, 2, 5], [0, 0, 0, 0, 0, 2, 4, 2, 5],
        [0, 0, 0, 0, 0, 0, 16, 2, 5], [0, 0, 0, 0, 0, 0, 4, 0, 5], [0, 0, 0, 0, 0, 0, 4, 5, 5],
        [0, 0, 0, 0, 0, 0, 4, 2, 0], [0, 0, 0, 0, 0, 0, 4, 2, 16]] : List (List Byte)),
      (asked .reset 0x33 p).Owes 0x33 7 p) ∧
    ((asked on0 0x33 [0, 1, 0xD4, 0xC0, 0, 0, 15, 1, 15]).Owes 0x33 7
        [0, 1, 0xD4, 0xC0, BitVec.ofNat 8 BudgetMode.full.code, BitVec.ofNat 8 Policy.strict.code, 15, 1, 15] ∧
      ceilingFor on0.budget.supplies 120000 .full < on0.budget.committed) ∧
    ((asked { on0 with admission.inrushHeld := 2 } 0x33 [0, 0, 0, 0, 0, 0, 0, 1, 1]).Owes 0x33 7
        [0, 0, 0, 0, BitVec.ofNat 8 BudgetMode.full.code, BitVec.ofNat 8 Policy.strict.code, 0, 1, 1] ∧
      on0.budget.committed ≤ ceilingFor on0.budget.supplies 0 .full) ∧
    ((asked on0 0x33 [0, 0, 0, 50, 0, 1, 0, 4, 1]).Owes 0x33 7
        [0, 0, 0, 50, BitVec.ofNat 8 BudgetMode.full.code, BitVec.ofNat 8 Policy.fit.code, 0, 4, 1] ∧
      on0.budget.committed ≤ ceilingFor on0.budget.supplies 50 .full ∧ on0.admission.inrushHeld ≤ 4) := by decide

theorem witness_SetClassesAndBlink :
    (∀ p ∈ ([[0x4E, 0x20, 0, 0, 0, 0, 0, 0], [0, 0, 0, 0, 0, 0, 0x4E, 0x21]] : List (List Byte)),
      (asked .reset 0x35 p).Owes 0x35 7 p) ∧
    (∀ p ∈ ([[2, 0, 100, 0, 0], [0, 0, 99, 0, 0], [0, 0x0F, 0xA1, 0, 0], [0, 0, 100, 0, 101], [0, 0, 100, 0, 100],
        [1, 0x0F, 0xA0, 0, 0]] : List (List Byte)),
      (asked .reset 0x36 p).Owes 0x36 7 p) := by decide

theorem witness_GateFreezeRestart :
    (∀ b ∈ ([0, 1, 2, 255] : List Byte), (asked .reset 0x37 [b]).Owes 0x37 7 [b] ∧ (asked .reset 0x7F [b]).Owes 0x7F 7 [b]) ∧
      BitVec.ofNat 8 State.reset.admission.gate.code = (0 : Byte) ∧
      (asked .reset 0x3F []).Owes 0x3F 7 [] ∧ (asked (frozen .reset) 0x3F []).Owes 0x3F 7 [] := by decide

/-! ### Witnesses: the message port -/

theorem witness_ReceiverRuns :
    State.reset.port.receiver = .hunt ∧ State.reset.port.offerDue = false ∧
      (receiving .headerLen).port.receiver = .headerLen ∧
      (BitVec.toNat (120 : Byte) ≤ 120 ∧ 120 < BitVec.toNat (121 : Byte)) ∧
      (receiving (.headerTag 120)).port.receiver = .headerTag 120 ∧
      (receiving (.headerKind 0 7)).port.receiver = .headerKind 0 7 ∧
      (receiving (.headerKind 120 7)).port.receiver = .headerKind 120 7 ∧
      (receiving (.body 1 7 2 [] (0 + 1))).port.receiver = .body 1 7 2 [] (0 + 1) ∧
      (receiving (.body 2 7 2 [] (1 + 1))).port.receiver = .body 2 7 2 [] (1 + 1) ∧
      (receiving (.checkHigh 0 7 1 [])).port.receiver = .checkHigh 0 7 1 [] ∧
      (withPort { Port.reset 0 with receiver := .headerLen, gap := 11 }).port.gap = 11 ∧
      (withPort { Port.reset 0 with receiver := .headerLen, gap := 10 }).port.gap < 11 := by decide

theorem witness_FramesAreJudged :
    (receiving (.checkLow 0 7 1 [] 0)).port.receiver = .checkLow 0 7 1 [] 0 := by decide

theorem witness_FramesOnTheLine :
    let s := withPort { Port.reset 0 with requests := (List.range 7).map fun n => ⟨BitVec.ofNat 8 (n + 1), 1, [], none⟩ }
    s.port.receiver = .hunt ∧ s.port.offerDue = false ∧ (255 : Byte) ≠ 0 ∧ (List.replicate 120 (0 : Byte)).length ≤ 120 ∧
      (255 : Byte) ∉ s.port.requests.map (·.tag) ∧ s.port.requests.length < 8 := by decide

theorem witness_LinkReset :
    ({ State.reset with part.restartAsk := .asked true } : State).part.restartAsk = .asked true ∧
      (withPort { Port.reset 0 with rxHeld := true }).port.rxHeld = true := by decide

/-- The state after reset with an offer due, a credit and these frames and notices. -/
def offering (credit : Nat) (ready : List Ready) (e : Events) : State :=
  { State.reset with
    events := e
    port := { Port.reset 0 with
      offerDue := true, credit := credit, ready := ready, requests := [⟨7, 1, [], some [0]⟩] } }

theorem witness_ArbiterOffers :
    (∀ s ∈ [offering 0 [.reply 7] .reset, offering 0 [.reject .badTag 0] .reset, offering 1 [] .reset,
        offering 1 [] { Events.reset with overflow := true, lostCount := 1, overflowStamp := some 3 },
        offering 0 [] .reset, offering 1 [] { Events.reset with notices := [] }],
      s.port.offerDue = true ∧ s.lineIdle = true ∧ (s.port.requests.map (·.tag)).Nodup) ∧
    (offering 1 [] .reset).events.notices = [⟨none, .restarted, 1, 0⟩] ∧
    (let s := { offering 1 [] .reset with port.sending := some (.reject .badTag 0) }
     s.port.offerDue = true ∧ s.lineIdle = false) := by decide

theorem witness_FrameEnds :
    ((withPort { Port.reset 0 with sending := some (.reject .dupTag 7) }).port.sending = some (.reject .dupTag 7) ∧
      ∀ tag, TxFrame.reject .dupTag 7 ≠ .reply 0x7F tag [0x00]) ∧
    (let s := { withPort { Port.reset 0 with sending := some (.reply 0x7F 7 [0x00]) } with part.restartAsk := .asked false }
     s.port.sending = some (.reply 0x7F 7 [0x00]) ∧ s.port.offerDue = false ∧ s.part.restartAsk = .asked false) := by
  decide

/-! ### Witnesses: the budget, shedding and admission -/

theorem witness_CeilingIsComputed :
    on0.budget.mode = .full ∧
    (let b := { on0.budget with mode := .redundant }
     b.mode = .redundant ∧ ((List.finRange 4).filter fun n => (b.supplies.get n).line.held) = [0]) ∧
    (let b := { on0.budget with mode := .redundant, supplies := workedSupplies true true true }
     let good := (List.finRange 4).filter fun n => (b.supplies.get n).line.held
     1 ∈ good ∧ ∀ n ∈ good, (b.supplies.get n).capacity ≤ (b.supplies.get 1).capacity) := by decide

theorem witness_SupplyGoodChanges :
    (State.reset.budget.supplies.get 3).line.held ≠ true ∧
      State.reset.budget.committed ≤ ceilingFor (State.reset.budget.supplies.set 3 ⟨still true, 0, 0⟩) 0 .full ∧
      (waiting0.budget.supplies.get 0).line.held ≠ false ∧
      waiting0.budget.committed ≤ ceilingFor (waiting0.budget.supplies.set 0 ⟨still false, 300, 0⟩) 0 .full := by decide

theorem witness_SheddingTakesTheRightSlots :
    on0.PowerLawful ∧ (on0.budget.supplies.get 0).line.held ≠ false := by decide

/-- A slot in this state with restore-after-shed set. -/
def restoring (st : PowerState) : Slot := { inState st with restoreAfterShed := true }

theorem witness_VictimsAreShed :
    (((at0 (inState .on)).slot 0).power.powered = true ∧ ((at0 (inState .on)).slot 0).Lawful ∧
      ((at0 (inState .on)).slot 0).restoreAfterShed = false) ∧
    (((at0 (restoring .drain)).slot 0).power = .drain ∧ ((at0 (restoring .drain)).slot 0).Lawful) ∧
    (((at0 (restoring .auxRamp)).slot 0).power = .auxRamp ∧ ((at0 (restoring .auxRamp)).slot 0).Lawful ∧
      ((at0 (restoring .auxRamp)).slot 0).restoreAfterShed = true) :=
  ⟨⟨by decide, by decide, by decide⟩, ⟨by decide, by decide⟩, by decide, by decide, by decide⟩

/-- Slot 24 waits too, with its lever open, and stands ahead of slot 1. -/
def waitingPair : State :=
  { waiting0 with
    slots := waiting0.slots.set 23 { inState .waiting with lines.lever := still false }
    admission.queue := [⟨23, 3, 1, .host, 5, 0, false⟩, { entry0 with stamp := 2 }]
    admission.enqueueCounter := 2 }

theorem witness_AdmissionPassTakesOneEntry :
    waitingPair.admission.passDue = true ∧
    waitingPair.admission.queue = [⟨23, 3, 1, .host, 5, 0, false⟩] ++ { entry0 with stamp := 2 } :: [] ∧
    (waitingPair.slot 23).lines.lever.held = false ∧ (waitingPair.slot 0).lines.lever.held = true ∧
    (waitingPair.slot 0).hardware.lockFitted = false ∧ waitingPair.admission.gate = .opened ∧
    waitingPair.admission.inrushHeld < waitingPair.admission.positions ∧
    ((waitingPair.slot 0).overrideDraw.or ((waitingPair.slot 0).moduleClass.map fun c => waitingPair.budget.classDraws.get c)) =
      some 250 ∧
    0 < waitingPair.budget.ceiling ∧ waitingPair.budget.committed + 250 ≤ waitingPair.budget.ceiling ∧
    ({ waitingPair with admission.gate := .held } : State).admission.gate = .held ∧
    ({ waitingPair with budget.ceiling := 249 } : State).budget.ceiling < waitingPair.budget.committed + 250 ∧
    ({ waitingPair with budget.ceiling := 249 } : State).admission.policy = .strict := by decide

/-- The same with the lever of slot 24 closed: both draws fit alone, and together they are more than the ceiling. -/
def rivals : State :=
  { waitingPair with slots := waitingPair.slots.set 23 (inState .waiting) }

/-- The pass tests the second draw against what the first admission left (R10, R37). -/
theorem test_pass_counts_earlier_admissions :
    let t := nextOf (exec .admissionPass rivals)
    (t.slot 23).power = .auxRamp ∧ (t.slot 0).power = .waiting ∧ t.budget.committed = 250 := by decide +kernel

theorem witness_AdmissionPassKeepsItsPromises :
    (waitingPair.PowerLawful ∧ waitingPair.admission.passDue = true) ∧
      (rivals.PowerLawful ∧ rivals.admission.passDue = true) :=
  ⟨⟨by decide, by decide⟩, by decide, by decide⟩

/-! ### Witnesses: power sequencing and faults -/

theorem witness_StagesEnd :
    (∀ st ∈ ([.auxRamp, .mainRamp, .readyWait, .on] : List PowerState),
      let sl := (at0 (inState st)).slot 0
      sl.power = st ∧ sl.lines.auxGood.held = false ∧ sl.lines.mainGood.held = false ∧ sl.lines.ready.held = false) ∧
    ∀ st ∈ ([.auxRamp, .mainRamp, .readyWait] : List PowerState),
      let sl := (at0 { inState st with endDue := true }).slot 0
      sl.power = st ∧ sl.endDue = true := by decide

theorem witness_SettleTimeEnds :
    (let sl := (at0 { inState .settle with stageTimer := some 0 }).slot 0
     sl.power = .settle ∧ sl.stageTimer = some 0) ∧
    (let sl := (at0 { inState .settle with endDue := true }).slot 0
     sl.power = .settle ∧ sl.endDue = true) := by decide

/-- A drain with READY asserted. -/
def draining : Slot := { inState .drain with lines := { idleSlot.lines with ready := still true } }

theorem witness_DrainEnds :
    (let sl := (at0 draining).slot 0
     sl.lines.ready.held = true ∧ sl.power = .drain ∧ sl.readyRequired = true) ∧
    (let sl := (at0 { draining with readyRequired := false }).slot 0
     sl.lines.ready.held = true ∧ (sl.power ≠ .drain ∨ sl.readyRequired = false)) ∧
    (let sl := (at0 { draining with stageTimer := some 0 }).slot 0
     sl.power = .drain ∧ sl.stageTimer = some 0) ∧
    (let sl := (at0 { inState .drain with endDue := true }).slot 0
     sl.power = .drain ∧ sl.endDue = true) := by decide

theorem witness_StageDeadlinesFault :
    ∀ x ∈ ([(.auxRamp, .auxTimeout), (.mainRamp, .mainTimeout), (.readyWait, .readyTimeout)] :
        List (PowerState × FaultKind)),
      let sl := (at0 { inState x.1 with stageTimer := some 0 }).slot 0
      (sl.power, x.2) ∈ ([(.auxRamp, .auxTimeout), (.mainRamp, .mainTimeout), (.readyWait, .readyTimeout)] :
        List (PowerState × FaultKind)) ∧ sl.stageTimer = some 0 := by decide

theorem witness_LinesFault :
    (∀ st ∈ ([.auxRamp, .mainRamp, .settle, .drain, .idle] : List PowerState),
      ((at0 (inState st)).slot 0).power = st) ∧
    (let sl := (at0 { inState .auxRamp with
        overcurrentDue := true, lines := { idleSlot.lines with fault := still true, auxGood := still true } }).slot 0
     sl.overcurrentDue = true ∧ sl.lines.fault.held = true ∧ sl.lines.auxGood.held = true) ∧
    (let sl := (at0 { inState .on with
        overcurrentDue := true, auxLostDue := true, mainLostDue := true
        lines := { idleSlot.lines with mainGood := still true } }).slot 0
     sl.overcurrentDue = true ∧ sl.lines.fault.held = false ∧ sl.auxLostDue = true ∧ sl.lines.auxGood.held = false ∧
       sl.mainLostDue = true ∧ sl.lines.mainGood.held = true) := by decide

/-! ### Witnesses: the bay -/

theorem witness_Insertion :
    (let sl := State.reset.slot 23
     sl.lines.present.held = false ∧ sl.hardware.enabled = true ∧ sl.power = .vacant) ∧
    (let sl := (at0 { Slot.reset with power := .faulted }).slot 0
     sl.lines.present.held = false ∧ sl.hardware.enabled = true ∧ sl.power = .faulted) ∧
    (let sl := (at0 (disabled Slot.reset)).slot 0
     sl.lines.present.held = false ∧ sl.hardware.enabled = false) := by decide

theorem witness_Removal :
    (∀ st ∈ ([.idle, .waiting, .faulted, .auxRamp, .drain] : List PowerState),
      let sl := (at0 (inState st)).slot 0
      sl.lines.present.held = true ∧ sl.hardware.enabled = true ∧ sl.power = st ∧ sl.hardware.surpriseTolerant = false) ∧
    (let sl := (at0 { inState .on with hardware.surpriseTolerant := true }).slot 0
     sl.lines.present.held = true ∧ sl.power.powered = true ∧ sl.hardware.surpriseTolerant = true) ∧
    (let sl := (at0 (disabled idleSlot)).slot 0
     sl.lines.present.held = true ∧ sl.hardware.enabled = false) := by decide

theorem witness_LeverChanges :
    (∀ sl ∈ [inState .auxRamp, inState .drain, locking .lock false, idleSlot],
      ((at0 sl).slot 0).lines.lever.held ≠ false ∧ ((at0 sl).slot 0).hardware.enabled = true) ∧
    (∃ o ∈ ((at0 (locking .lock false)).slot 0).operation, o.kind = .lock) ∧
    (∀ sl ∈ [inState .waiting, idleSlot],
      ((at0 { sl with lines.lever := still false }).slot 0).lines.lever.held ≠ true) ∧
    ((at0 (disabled idleSlot)).slot 0).lines.lever.held ≠ false ∧
    ((at0 (disabled idleSlot)).slot 0).hardware.enabled = false := by decide

theorem witness_ButtonPress :
    (∀ sl ∈ [idleSlot, { inState .faulted with buttonPolicy := .toggle }],
      let r := (at0 sl).slot 0
      r.hardware.enabled = true ∧ (r.buttonPolicy = .eventOnly ∨ r.power = .vacant ∨ r.power = .faulted)) ∧
    (let r := (at0 { inState .on with buttonPolicy := .toggle, holdOff := some 1 }).slot 0
     r.hardware.enabled = true ∧ r.buttonPolicy = .toggle ∧ r.power ≠ .vacant ∧ r.power ≠ .faulted) ∧
    ((at0 (disabled idleSlot)).slot 0).hardware.enabled = false := by decide

theorem witness_HoldOffExpires :
    (∀ st ∈ ([.idle, .waiting, .auxRamp, .mainRamp, .settle, .readyWait, .on, .drain, .vacant, .faulted] :
        List PowerState),
      let sl := (at0 { inState st with holdOff := some 0 }).slot 0
      sl.holdOff = some 0 ∧ sl.power = st) ∧
    ((at0 { idleSlot with holdOff := some 0 }).slot 0).mayPowerOn ∧
    ¬((at0 { idleSlot with holdOff := some 0, lines.lever := still false }).slot 0).mayPowerOn := by decide

theorem witness_LockSenseChanges :
    (let sl := (at0 { inState .waiting with hardware.lockFitted := true }).slot 0
     sl.lines.lockSense.held ≠ true ∧ sl.hardware.enabled = true ∧ sl.hardware.lockFitted = true ∧ sl.power = .waiting ∧
       sl.lines.lever.held = true ∧ ¬∃ o ∈ sl.operation, o.kind = .lock ∨ o.kind = .unlock) ∧
    (let sl := (at0 { idleSlot with hardware.lockFitted := true }).slot 0
     sl.lines.lockSense.held ≠ true ∧ sl.power ≠ .waiting) ∧
    (let sl := (at0 { idleSlot with
        hardware.lockFitted := true, lines := { idleSlot.lines with lockSense := still true } }).slot 0
     sl.lines.lockSense.held ≠ false ∧ sl.operation = none) ∧
    (∀ x ∈ [(OpKind.lock, true), (.unlock, false), (.lock, false), (.unlock, true)],
      let sl := (at0 (locking x.1 (!x.2))).slot 0
      sl.lines.lockSense.held ≠ x.2 ∧ sl.operation = some (op x.1) ∧ sl.hardware.lockFitted = true) ∧
    (let sl := (at0 idleSlot).slot 0
     sl.lines.lockSense.held ≠ true ∧ sl.hardware.lockFitted = false) := by decide

theorem witness_LockOperationsEnd :
    (let sl := (at0 { locking .unlock true with lockTimer := some 0 }).slot 0
     sl.operation = some (op .unlock) ∧ sl.lockTimer = some 0) ∧
    (∀ x ∈ [(OpKind.lock, true), (.unlock, false), (.lock, false)],
      let sl := (at0 { locking x.1 x.2 with lockEndDue := some 5 }).slot 0
      sl.operation = some (op x.1) ∧ sl.lockEndDue = some (op x.1).ticket ∧ sl.lines.lockSense.held = x.2) := by decide

/-! ### Witnesses: blink patterns, restarts and the laws -/

theorem witness_BlinkPatternsRun :
    (let b := State.reset.slow
     ¬b.period ≤ b.phase + 1 ∧ ¬(b.phase + 1 < b.period ∧ b.phase + 1 = b.onTime)) ∧
    (let b : BlinkPattern := { BlinkPattern.slowReset with phase := 999, crossing := true }
     b.crossing = true ∧ b.period ≤ b.phase + 1) ∧
    (let b : BlinkPattern := { BlinkPattern.slowReset with phase := 499, crossing := true }
     b.crossing = true ∧ b.phase + 1 < b.period ∧ b.phase + 1 = b.onTime) := by decide

/-- The state with slot 1 ON in which a restart of this form is due. -/
def restarting (keepPower : Bool) : State := { on0 with part.restartAsk := .due keepPower }

theorem witness_RideThroughRestart :
    on0.PowerLawful ∧ (restarting true).PowerLawful ∧ (restarting true).part.restartAsk = .due true :=
  ⟨by decide, by decide, by decide⟩

theorem witness_FullRestart : (restarting false).part.restartAsk = .due false := by decide

/-- The laws that the invariants keep hold of a state in which a slot is powered, and step answers a next state there. -/
theorem witness_laws_are_kept :
    on0.PowerLawful ∧ on0.PortLawful ∧ on0.LineBusy ∧ State.reset.OutputsFollow ∧ on0.slow.Lawful ∧ on0.fast.Lawful ∧
      on0.EventsLawful ∧ on0.InRange ∧ step on0 = .next on0.tick := by
  refine ⟨by decide, by decide, by decide, by decide, by decide, by decide, by decide, by decide, rfl⟩

end Sys2Proof.Machine.Tests
end

section
/-! PROOFS. The power budget (chapter 1): the ceiling in both modes (R4, R5), its recomputation where nothing is shed (R6),
and SET-BUDGET (R18, R19). -/
namespace Sys2Proof.Machine

/-! ### The ceiling (R4, R5) -/

/-- The supplies whose GOOD is true, in the order of their numbers. -/
def goodSupplies (ps : Vector Supply 4) : List SupplyId := (List.finRange 4).filter fun n => (ps.get n).line.held

theorem mem_goodSupplies {ps : Vector Supply 4} {n : SupplyId} :
    n ∈ goodSupplies ps ↔ (ps.get n).line.held = true := by
  simp [goodSupplies]

theorem Supply.share_of_good {p : Supply} (h : p.line.held = true) : p.share = p.capacity := if_pos h

theorem Supply.share_of_not_good {p : Supply} (h : p.line.held = false) : p.share = 0 := by
  simp [Supply.share, h]

/-- The shares, read by supply number. -/
theorem shares_eq_map_get (ps : Vector Supply 4) :
    ps.toList.map Supply.share = (List.finRange 4).map fun n => (ps.get n).share := by
  apply List.ext_getElem <;> simp [Vector.get]

/-- Supplies that are not good add nothing to a sum of shares. -/
theorem sum_shares_eq_sum_good (ps : Vector Supply 4) (l : List SupplyId) :
    (l.map fun n => (ps.get n).share).sum =
      ((l.filter fun n => (ps.get n).line.held).map fun n => (ps.get n).capacity).sum := by
  induction l with
  | nil => rfl
  | cons n l ih =>
    cases h : (ps.get n).line.held with
    | true => simp [h, ih, Supply.share_of_good h]
    | false => simp [h, ih, Supply.share_of_not_good h]

theorem goodSum_eq (ps : Vector Supply 4) :
    goodSum ps = ((goodSupplies ps).map fun n => (ps.get n).capacity).sum := by
  rw [goodSum, shares_eq_map_get, sum_shares_eq_sum_good, goodSupplies]

/-- A good supply with the greatest capacity of all good supplies gives what REDUNDANT mode takes away. -/
theorem goodMax_eq_of_greatest {ps : Vector Supply 4} {m : SupplyId} (hm : m ∈ goodSupplies ps)
    (hmax : ∀ n ∈ goodSupplies ps, (ps.get n).capacity ≤ (ps.get m).capacity) :
    goodMax ps = (ps.get m).capacity := by
  have hge : ∀ n, (ps.get n).share ≤ (ps.get m).capacity := by
    intro n
    cases hn : (ps.get n).line.held with
    | true => exact Supply.share_of_good hn ▸ hmax n (mem_goodSupplies.2 hn)
    | false => simp [Supply.share_of_not_good hn]
  have hmem : (ps.get m).capacity ∈ (List.finRange 4).map fun n => (ps.get n).share :=
    List.mem_map.2 ⟨m, List.mem_finRange m, Supply.share_of_good (mem_goodSupplies.1 hm)⟩
  have hmax? : ((List.finRange 4).map fun n => (ps.get n).share).max? = some (ps.get m).capacity :=
    List.max?_eq_some_iff.2 ⟨hmem, by simpa using hge⟩
  rw [goodMax, shares_eq_map_get, List.foldl_max, hmax?]
  exact Nat.zero_max _

/-- With at most one good supply, REDUNDANT mode leaves nothing: that supply is also the largest. -/
theorem goodSum_le_goodMax_of_length_le_one {ps : Vector Supply 4} (h : (goodSupplies ps).length ≤ 1) :
    goodSum ps ≤ goodMax ps := by
  rw [goodSum_eq]
  match hg : goodSupplies ps, h with
  | [], _ => simp
  | [m], _ =>
    have hm : goodMax ps = (ps.get m).capacity := goodMax_eq_of_greatest (by simp [hg]) (by simp [hg])
    simp [hm]

theorem Budget.computed_of_full {b : Budget} (h : b.mode = .full) : b.computed = goodSum b.supplies - b.reserve := by
  simp only [Budget.computed, ceilingFor, h]

theorem Budget.computed_of_redundant {b : Budget} (h : b.mode = .redundant) :
    b.computed = goodSum b.supplies - goodMax b.supplies - b.reserve := by
  simp only [Budget.computed, ceilingFor, h]

/-- Settles O32: the two modes apart, with the sum and the greatest of the good capacities known. -/
theorem ceilingIsComputed : Obligations.CeilingIsComputed := by
  intro b good capacities
  have hsum : goodSum b.supplies = capacities.sum := goodSum_eq b.supplies
  refine ⟨fun hfull => ?_, fun hred hone => ?_, fun m hm hred hmax => ?_⟩
  · rw [Budget.computed_of_full hfull, hsum]
    omega
  · have hle := goodSum_le_goodMax_of_length_le_one hone
    rw [Budget.computed_of_redundant hred]
    omega
  · rw [Budget.computed_of_redundant hred, goodMax_eq_of_greatest hm hmax, hsum]
    omega

/-! ### The ceiling recomputed where nothing is shed (R6, R85) -/

/-- A posting to the notice queue leaves the pending set of slot 0 alone and does not read it. -/
theorem Events.post_with_pendingZero (e : Events) (set : Word16) (w : Option SlotId) (k : EventKind) (now : Word32) :
    ({ e with pendingZero := set } : Events).post w k now = { e.post w k now with pendingZero := set } := by
  unfold Events.post
  dsimp only
  split
  · rfl
  · split <;> rfl

/-- An occurrence on slot 0 puts its kind in that pending set before it posts to the notice queue. -/
theorem Events.taking_none (e : Events) (now : Word32) (k : EventKind) :
    e.taking now (none, k) =
      if hasKind e.noticeMask k then ({ e with pendingZero := e.pendingZero ||| k.bit } : Events).post none k now
      else { e with pendingZero := e.pendingZero ||| k.bit } := by
  unfold Events.taking
  cases hasKind e.noticeMask k with
  | true => exact (e.post_with_pendingZero _ none k now).symm
  | false => rfl

/-- An occurrence on slot 0 is a posting of it alone. -/
theorem State.occur_none_eq_posting (s : State) (k : EventKind) : s.occur none k = s.posting [(none, k)] := by
  cases hm : hasKind s.events.noticeMask k with
  | true =>
    simp only [State.occur, State.setPending, State.posting, List.foldl_cons, List.foldl_nil, Events.taking_none, hm,
      if_true, List.any_cons, Bool.true_or, Bool.or_true]
    rfl
  | false =>
    simp only [State.occur, State.setPending, State.posting, List.foldl_cons, List.foldl_nil, Events.taking_none, hm,
      if_false, List.any_cons, List.any_nil, Bool.or_false, Bool.false_eq_true]
    rfl

/-- A commitment within the ceiling leaves nothing to shed (R75). -/
theorem State.shedLoop_of_committed_le {s : State} (h : s.budget.committed ≤ s.budget.ceiling) (n : Nat) :
    s.shedLoop n = s := by
  cases n with
  | zero => rfl
  | succ n => exact if_pos h

/-- The state in which the ceiling is the one that the supplies and settings give: CEILING is posted if it changed, and a
rise clears the held-for-rise marks and makes a pass due (R6, R85). -/
def State.ceilingFollows (s : State) : State :=
  ({ s with
      budget.ceiling := s.budget.computed
      admission.queue :=
        if s.budget.ceiling < s.budget.computed then s.admission.queue.map fun e => { e with heldForRise := false }
        else s.admission.queue
      admission.passDue := s.admission.passDue || decide (s.budget.ceiling < s.budget.computed) } : State).posting
    (if s.budget.computed = s.budget.ceiling then [] else [(none, .ceiling)])

/-- Where the new ceiling covers the committed total, recomputing it sheds nothing: the ceiling stays, rises or falls. -/
theorem State.recompute_eq_ceilingFollows {s : State} (h : s.budget.committed ≤ s.budget.computed) :
    s.recompute = s.ceilingFollows := by
  unfold State.recompute State.ceilingFollows
  obtain hlt | heq | hgt := Nat.lt_trichotomy s.budget.ceiling s.budget.computed
  · simp only [hlt, hlt.ne', if_true, if_false, State.occur_none_eq_posting, decide_true, Bool.or_true]
    rfl
  · simp [← heq]
  · have hn : ¬ s.budget.ceiling < s.budget.computed := by omega
    simp only [hn, hgt.ne, if_false, State.occur_none_eq_posting, decide_false, Bool.or_false]
    exact State.shedLoop_of_committed_le h 24

/-! ### The fields of SET-BUDGET (R18) -/

/-- A byte appended is a digit to the base 256. -/
theorem toNat_append_byte {w : Nat} (x : BitVec w) (b : Byte) : (x ++ b).toNat = x.toNat * 256 + b.toNat := by
  rw [BitVec.toNat_append, ← Nat.shiftLeft_add_eq_or_of_lt b.isLt, Nat.shiftLeft_eq]

/-- Four bytes carry the number of the word they make up (R169). -/
theorem be32_eq_toNat_append (a b c d : Byte) : be32 a b c d = (a ++ b ++ c ++ d : Word32).toNat := by
  simp only [be32, toNat_append_byte]

theorem readRange_eq_some_iff {lo hi n x : Nat} : readRange lo hi n = some x ↔ (lo ≤ n ∧ n ≤ hi) ∧ n = x := by
  simp [readRange]

theorem readFlag_eq_none {b : Byte} (h : 1 < b.toNat) : readFlag b = none := by
  unfold readFlag
  split
  · omega
  · omega
  · rfl

theorem readBudgetMode_eq_none {m : Byte} (h : 1 < m.toNat) : readBudgetMode m = none := by
  simp [readBudgetMode, readFlag_eq_none h]

theorem readPolicy_eq_none {p : Byte} (h : 1 < p.toNat) : readPolicy p = none := by
  simp [readPolicy, readFlag_eq_none h]

theorem readBudgetMode_code (m : BudgetMode) : readBudgetMode (BitVec.ofNat 8 m.code) = some m := by
  cases m <;> rfl

theorem readPolicy_code (p : Policy) : readPolicy (BitVec.ofNat 8 p.code) = some p := by
  cases p <;> rfl

/-- The settings read are the six fields read one by one. -/
theorem readBudgetSettings_eq_some_iff {r3 r2 r1 r0 m p b k h : Byte} {t : BudgetSettings} :
    readBudgetSettings r3 r2 r1 r0 m p b k h = some t ↔
      readRange 0 120000 (be32 r3 r2 r1 r0) = some t.reserve ∧ readBudgetMode m = some t.mode ∧
      readPolicy p = some t.policy ∧ readRange 0 15 b.toNat = some t.bypassLimit ∧
      readRange 1 4 k.toNat = some t.positions ∧ readRange 1 15 h.toNat = some t.holdOffTime := by
  obtain ⟨reserve, mode, policy, bypassLimit, positions, holdOffTime⟩ := t
  simp [readBudgetSettings, Option.bind_eq_some_iff]

/-- One field outside its range and no settings are read (R18). -/
theorem readBudgetSettings_eq_none {r3 r2 r1 r0 m p b k h : Byte}
    (hbad : 120000 < (r3 ++ r2 ++ r1 ++ r0 : Word32).toNat ∨ 1 < m.toNat ∨ 1 < p.toNat ∨ 15 < b.toNat ∨ k.toNat = 0 ∨
      4 < k.toNat ∨ h.toNat = 0 ∨ 15 < h.toNat) :
    readBudgetSettings r3 r2 r1 r0 m p b k h = none := by
  refine Option.eq_none_iff_forall_ne_some.2 fun t ht => ?_
  obtain ⟨hreserve, hmode, hpolicy, hbypass, hpositions, hholdOff⟩ := readBudgetSettings_eq_some_iff.1 ht
  rw [readRange_eq_some_iff] at hreserve hbypass hpositions hholdOff
  rw [be32_eq_toNat_append] at hreserve
  have hm : ¬ 1 < m.toNat := fun hm => by simp [readBudgetMode_eq_none hm] at hmode
  have hp : ¬ 1 < p.toNat := fun hp => by simp [readPolicy_eq_none hp] at hpolicy
  omega

/-- Fields within their ranges are read as the settings they carry (R18). -/
theorem readBudgetSettings_of_inRange {r3 r2 r1 r0 b k h : Byte} (m : BudgetMode) (p : Policy)
    (hr : (r3 ++ r2 ++ r1 ++ r0 : Word32).toNat ≤ 120000) (hb : b.toNat ≤ 15) (hk1 : 1 ≤ k.toNat) (hk4 : k.toNat ≤ 4)
    (hh1 : 1 ≤ h.toNat) (hh15 : h.toNat ≤ 15) :
    readBudgetSettings r3 r2 r1 r0 (BitVec.ofNat 8 m.code) (BitVec.ofNat 8 p.code) b k h =
      some ⟨(r3 ++ r2 ++ r1 ++ r0 : Word32).toNat, m, p, b.toNat, k.toNat, h.toNat⟩ := by
  simp only [readBudgetSettings_eq_some_iff, readRange_eq_some_iff, be32_eq_toNat_append, readBudgetMode_code,
    readPolicy_code, and_true, true_and]
  omega

/-! ### SET-BUDGET (R18, R19) -/

/-- What SET-BUDGET does with settings whose fields are all in range: the two checks, then the settings written and the
ceiling recomputed. -/
def State.takeBudgetSettings (s : State) (t : BudgetSettings) : State × List Byte :=
  let would := ceilingFor s.budget.supplies t.reserve t.mode
  if would < s.budget.committed then (s, 0x19 :: (u32 would ++ u32 s.budget.committed))
  else if t.positions < s.admission.inrushHeld then (s, [0x11])
  else
    ((s.withBudgetSettings t).recompute, 0x00 :: u32 (s.withBudgetSettings t).recompute.budget.ceiling)

/-- SET-BUDGET answers BAD_VALUE where a field is out of its range, and otherwise takes the settings. -/
theorem setBudgetRequest_eq_elim (r3 r2 r1 r0 m p b k h : Byte) (s : State) :
    setBudgetRequest [r3, r2, r1, r0, m, p, b, k, h] s =
      (readBudgetSettings r3 r2 r1 r0 m p b k h).elim (s, [0x21]) s.takeBudgetSettings := by
  unfold setBudgetRequest
  dsimp only
  cases readBudgetSettings r3 r2 r1 r0 m p b k h with
  | none => rfl
  | some t => rfl

/-- A field outside its range is refused, and nothing changes. -/
theorem setBudgetRequest_of_none {r3 r2 r1 r0 m p b k h : Byte} (s : State)
    (hread : readBudgetSettings r3 r2 r1 r0 m p b k h = none) :
    setBudgetRequest [r3, r2, r1, r0, m, p, b, k, h] s = (s, [0x21]) := by
  rw [setBudgetRequest_eq_elim, hread, Option.elim_none]

theorem setBudgetRequest_of_some {r3 r2 r1 r0 m p b k h : Byte} (s : State) {t : BudgetSettings}
    (hread : readBudgetSettings r3 r2 r1 r0 m p b k h = some t) :
    setBudgetRequest [r3, r2, r1, r0, m, p, b, k, h] s = s.takeBudgetSettings t := by
  rw [setBudgetRequest_eq_elim, hread, Option.elim_some]

/-- A ceiling below the committed total is refused, and nothing changes. -/
theorem State.takeBudgetSettings_overCommitted {s : State} {t : BudgetSettings}
    (hover : ceilingFor s.budget.supplies t.reserve t.mode < s.budget.committed) :
    s.takeBudgetSettings t =
      (s, 0x19 :: (u32 (ceilingFor s.budget.supplies t.reserve t.mode) ++ u32 s.budget.committed)) :=
  if_pos hover

/-- Fewer positions than are held are refused, and nothing changes. -/
theorem State.takeBudgetSettings_inUse {s : State} {t : BudgetSettings}
    (hcovers : s.budget.committed ≤ ceilingFor s.budget.supplies t.reserve t.mode)
    (hheld : t.positions < s.admission.inrushHeld) : s.takeBudgetSettings t = (s, [0x11]) :=
  (if_neg (Nat.not_lt.2 hcovers)).trans (if_pos hheld)

/-- Settings that pass every check are written together, and the ceiling follows. -/
theorem State.takeBudgetSettings_ok {s : State} {t : BudgetSettings}
    (hcovers : s.budget.committed ≤ ceilingFor s.budget.supplies t.reserve t.mode)
    (hheld : s.admission.inrushHeld ≤ t.positions) :
    s.takeBudgetSettings t =
      ((s.withBudgetSettings t).ceilingFollows, 0x00 :: u32 (ceilingFor s.budget.supplies t.reserve t.mode)) := by
  have hfollow : (s.withBudgetSettings t).recompute = (s.withBudgetSettings t).ceilingFollows :=
    State.recompute_eq_ceilingFollows hcovers
  refine (if_neg (Nat.not_lt.2 hcovers)).trans ((if_neg (Nat.not_lt.2 hheld)).trans ?_)
  rw [hfollow]
  rfl

/-- While a request is owed no requested restart is due (R162). -/
theorem State.Owes.restart_not_due {s : State} {kind tag : Byte} {payload : List Byte} (h : s.Owes kind tag payload) :
    s.part.restartAsk.isDue = false := by
  have hask : s.part.restartAsk = .none := by
    have hdue := h.1
    simp only [State.requestDue, Bool.and_eq_true, decide_eq_true_eq] at hdue
    exact hdue.2
  rw [hask]
  rfl

/-- An owed SET-BUDGET is answered with the reply of its request, in the state that the request leaves. -/
theorem setBudget_answered {s u : State} {tag : Byte} {payload reply : List Byte} (howes : s.Owes 0x33 tag payload)
    (hbody : setBudgetRequest payload s = (u, reply)) (hreq : u.port.requests = s.port.requests)
    (hpart : u.part = s.part) :
    ∃ t, exec (.setBudget tag payload) s = .next t ∧ u.Answered t 0x33 tag reply :=
  ⟨_, rfl, State.execute_answered howes hbody hreq (hpart ▸ howes.restart_not_due)⟩

/-- Settles O23: a field out of its range, then the two checks in their order, then the settings written with the
ceiling following. -/
theorem setBudget : Obligations.SetBudget := by
  refine ⟨fun s tag r3 r2 r1 r0 m p b k h howes hbad => ?_, ?_⟩
  · exact setBudget_answered howes (setBudgetRequest_of_none s (readBudgetSettings_eq_none hbad)) rfl rfl
  · intro s tag r3 r2 r1 r0 b k h m p payload reserve would changed u howes hr hb hk1 hk4 hh1 hh15
    have htake := setBudgetRequest_of_some s (readBudgetSettings_of_inRange m p hr hb hk1 hk4 hh1 hh15)
    refine ⟨fun hover => ?_, fun hcovers hheld => ?_, fun hcovers hheld => ?_⟩
    · exact setBudget_answered howes (htake.trans (State.takeBudgetSettings_overCommitted hover)) rfl rfl
    · exact setBudget_answered howes (htake.trans (State.takeBudgetSettings_inUse hcovers hheld)) rfl rfl
    · exact setBudget_answered howes (htake.trans (State.takeBudgetSettings_ok hcovers hheld)) rfl rfl

end Sys2Proof.Machine
end

section
/-! PROOFS. The admission unit's requests that join nothing (chapter 2): the reports of READ-QUEUE and READ-BUDGET (R40,
R177, R178), and the POWER-ON that fails a check or finds another state than IDLE (R21, R22). -/
namespace Sys2Proof.Machine

/-! ### The reply of an owed request -/

/-- The execution of an owed request whose body leaves the request queue and the part-wide block alone. -/
theorem State.Owes.execute_answered {s u : State} {kind tag : Byte} {payload reply : List Byte}
    {body : State → State × List Byte} (howes : s.Owes kind tag payload) (hbody : body s = (u, reply))
    (hreq : u.port.requests = s.port.requests) (hpart : u.part = s.part) :
    u.Answered (s.execute tag kind payload body) kind tag reply :=
  State.execute_answered howes hbody hreq (hpart ▸ howes.restart_not_due)

/-! ### Bytes at their places in a reply -/

theorem bytesAt_append (pre bs post : List Byte) : bytesAt (pre ++ (bs ++ post)) pre.length bs := by
  simp [bytesAt]

/-- In a run of records of one size, each stands at its multiple of that size. -/
theorem bytesAt_flatMap {α : Type} {f : α → List Byte} {k : Nat} (hf : ∀ x, (f x).length = k) (pre post : List Byte)
    (l : List α) {i : Nat} (hi : i < l.length) :
    bytesAt (pre ++ (l.flatMap f ++ post)) (pre.length + k * i) (f l[i]) := by
  have hsplit : l.flatMap f = (l.take i).flatMap f ++ (f l[i] ++ (l.drop (i + 1)).flatMap f) := by
    rw [← List.flatMap_cons, ← List.drop_eq_getElem_cons hi, ← List.flatMap_append, List.take_append_drop]
  have hbefore : ((l.take i).flatMap f).length = k * i := by
    simp [List.length_flatMap, hf, Nat.min_eq_left hi.le, Nat.mul_comm]
  have hplace := bytesAt_append (pre ++ (l.take i).flatMap f) (f l[i]) ((l.drop (i + 1)).flatMap f ++ post)
  rw [List.length_append, hbefore] at hplace
  simpa only [hsplit, List.append_assoc] using hplace

theorem flag_eq_flagByte (b : Bool) : flag b = [flagByte b] := by
  cases b <;> rfl

/-! ### READ-QUEUE (R40, R177) -/

/-- The held-for-rise mark is carried as 16 above the bypass count. -/
theorem entryBytes_eq (e : QueueEntry) :
    entryBytes e = [slotByte e.slot, BitVec.ofNat 8 e.priority, BitVec.ofNat 8 e.origin.code,
      BitVec.ofNat 8 (if e.heldForRise then 16 + e.bypass else e.bypass)] := by
  have hmark : (e.bypass + if e.heldForRise then 16 else 0) = if e.heldForRise then 16 + e.bypass else e.bypass := by
    split <;> omega
  rw [entryBytes, hmark]
  rfl

theorem readQueueRequest_nil (s : State) :
    readQueueRequest [] s =
      (s, 0x00 :: BitVec.ofNat 8 s.admission.queue.length ::
        s.admission.queue.flatMap fun e => [slotByte e.slot, BitVec.ofNat 8 e.priority, BitVec.ofNat 8 e.origin.code,
          BitVec.ofNat 8 (if e.heldForRise then 16 + e.bypass else e.bypass)]) := by
  simp only [← entryBytes_eq]
  rfl

/-! ### READ-BUDGET (R178) -/

/-- The 20 bytes of READ-BUDGET's reply before the class draws. -/
def State.budgetHead (s : State) : List Byte :=
  (0x00 :: u32 s.budget.ceiling ++ u32 s.budget.committed) ++
    [BitVec.ofNat 8 (s.admission.positions - s.admission.inrushHeld), BitVec.ofNat 8 s.admission.positions,
      BitVec.ofNat 8 s.admission.gate.code, BitVec.ofNat 8 s.admission.policy.code,
      BitVec.ofNat 8 s.admission.bypassLimit, BitVec.ofNat 8 s.budget.mode.code] ++
    (u32 s.budget.reserve ++ [BitVec.ofNat 8 s.holdOffTime])

/-- READ-BUDGET's reply: the settings, the four class draws and the four supplies. -/
def State.budgetReply (s : State) : List Byte :=
  s.budgetHead ++ (s.budget.classDraws.toList.flatMap u16 ++ s.budget.supplies.toList.flatMap supplyBytes)

theorem readBudgetRequest_nil (s : State) : readBudgetRequest [] s = (s, s.budgetReply) := rfl

theorem State.budgetHead_length (s : State) : s.budgetHead.length = 20 := rfl

theorem u16_length (n : Nat) : (u16 n).length = 2 := rfl

theorem supplyBytes_length (p : Supply) : (supplyBytes p).length = 7 := rfl

theorem supplyBytes_eq (p : Supply) : supplyBytes p = u16 p.capacity ++ [flagByte p.line.held] ++ u32 p.stamp.toNat := by
  rw [supplyBytes, flag_eq_flagByte]

theorem classDraws_bytes_length (v : Vector Nat 4) : (v.toList.flatMap u16).length = 8 := by
  simp [List.length_flatMap, u16_length]

theorem supplies_bytes_length (v : Vector Supply 4) : (v.toList.flatMap supplyBytes).length = 28 := by
  simp [List.length_flatMap, supplyBytes_length]

theorem State.budgetReply_length (s : State) : s.budgetReply.length = 56 := by
  rw [State.budgetReply, List.length_append, List.length_append, State.budgetHead_length, classDraws_bytes_length,
    supplies_bytes_length]

/-- Each class draw stands at its place behind the settings. -/
theorem State.budgetReply_classDraw (s : State) (c : Fin 4) :
    bytesAt s.budgetReply (20 + 2 * c.val) (u16 (s.budget.classDraws.get c)) :=
  bytesAt_flatMap u16_length s.budgetHead _ s.budget.classDraws.toList (i := c.val) (by simp)

/-- Each supply record stands at its place behind the class draws. -/
theorem State.budgetReply_supply (s : State) (n : SupplyId) :
    bytesAt s.budgetReply (28 + 7 * n.val) (supplyBytes (s.budget.supplies.get n)) := by
  have hplace := bytesAt_flatMap supplyBytes_length (s.budgetHead ++ s.budget.classDraws.toList.flatMap u16) []
    s.budget.supplies.toList (i := n.val) (by simp)
  rw [List.length_append, State.budgetHead_length, classDraws_bytes_length] at hplace
  rwa [List.append_nil, List.append_assoc] at hplace

/-- Settles O10: both requests answer from the state as it stands; in READ-BUDGET's reply the settings have fixed places,
and the class draws and the supplies are runs of records of one size. -/
theorem readQueueAndBudget : Obligations.ReadQueueAndBudget := by
  refine ⟨fun s tag howes => ?_, fun s tag howes => ?_⟩
  · exact ⟨_, rfl, howes.execute_answered (readQueueRequest_nil s) rfl rfl⟩
  · refine ⟨_, s.budgetReply, rfl, howes.execute_answered (readBudgetRequest_nil s) rfl rfl, s.budgetReply_length,
      rfl, rfl, rfl, s.budgetReply_classDraw, fun n => ?_⟩
    rw [← supplyBytes_eq]
    exact s.budgetReply_supply n

/-! ### The slot field of a request (R169) -/

theorem toNat_slotByte (i : SlotId) : (slotByte i).toNat = i.val + 1 := by
  simp only [slotByte, slotNumber, BitVec.toNat_ofNat]
  omega

theorem readSlotField_slotByte (i : SlotId) : readSlotField (slotByte i) = some i := by
  have hrange : 1 ≤ (slotByte i).toNat ∧ (slotByte i).toNat ≤ 24 := by
    rw [toNat_slotByte]
    omega
  rw [readSlotField, dif_pos hrange]
  simp [toNat_slotByte]

theorem readSlotField_eq_none {n : Byte} (h : n.toNat = 0 ∨ 24 < n.toNat) : readSlotField n = none :=
  dif_neg (by omega)

/-! ### POWER-ON without a join (R21, R22) -/

theorem Slot.lockOp_isSome_iff (sl : Slot) :
    sl.lockOp.isSome = true ↔ ∃ o ∈ sl.operation, o.kind = .lock ∨ o.kind = .unlock := by
  unfold Slot.lockOp
  cases sl.operation with
  | none => simp
  | some o => cases hk : o.kind <;> simp [hk, OpKind.isLock]

/-- The first check that fails gives the reply, and where none fails `passed` is left (R21). -/
theorem Slot.powerOnCheck_elim_iff (sl : Slot) (reply : List Byte) (passed : Prop) :
    sl.powerOnCheck.elim passed (fun st => reply = ticketReply st 0) ↔
      if sl.hardware.enabled = false then reply = [0x12, 0, 0]
      else if sl.power = .faulted then reply = [0x14, 0, 0]
      else if sl.lines.present.held = false then reply = [0x13, 0, 0]
      else if sl.lines.lever.held = false then reply = [0x15, 0, 0]
      else if sl.hardware.lockFitted = true ∧ sl.lines.lockSense.held = false then reply = [0x16, 0, 0]
      else if ∃ o ∈ sl.operation, o.kind = .lock ∨ o.kind = .unlock then reply = [0x10, 0, 0]
      else passed := by
  simp only [Slot.powerOnCheck, Slot.lockOp_isSome_iff]
  split_ifs <;> rfl

theorem Slot.powerOnCheck_of_faulted {sl : Slot} (h : sl.power = .faulted) : sl.powerOnCheck ≠ none := by
  rw [Ne, Slot.powerOnCheck_none]
  exact fun ⟨_, hnot, _⟩ => hnot h

theorem Slot.lastTicket_eq (sl : Slot) : sl.lastTicket = (sl.lastOutcome.map (·.ticket)).getD 0 := by
  unfold Slot.lastTicket
  cases sl.lastOutcome <;> rfl

theorem Slot.opTicket_of_mem {sl : Slot} {o : Operation} (h : o ∈ sl.operation) : sl.opTicket = o.ticket := by
  rw [Slot.opTicket, Option.mem_def.1 h]

/-- From WAITING to READY_WAIT, a POWER-ON that has passed its checks reports the operation in flight (R22). -/
theorem State.powerOnPassed_inFlight {s : State} {i : SlotId} (hfaulted : (s.slot i).power ≠ .faulted)
    (hon : (s.slot i).power ≠ .on) (hdrain : (s.slot i).power ≠ .drain)
    (hoff : ¬((s.slot i).power = .idle ∨ (s.slot i).power = .vacant)) :
    s.powerOnPassed i = (s, ticketReply .already (s.slot i).opTicket) := by
  obtain ⟨hidle, hvacant⟩ := not_or.1 hoff
  cases hpower : (s.slot i).power with
  | waiting | auxRamp | mainRamp | settle | readyWait => simp only [State.powerOnPassed, hpower]
  | vacant | idle | on | drain | faulted => contradiction

/-- A POWER-ON that has passed its checks in another state than IDLE changes nothing: it is answered with the ticket of
the last outcome in ON, BUSY in DRAIN, and else with the ticket of the operation in flight (R22). -/
theorem State.powerOnPassed_of_not_idle {s : State} {i : SlotId} {reply : List Byte}
    (hfaulted : (s.slot i).power ≠ .faulted)
    (hreply : if (s.slot i).power = .on then reply = 0x03 :: u16 (((s.slot i).lastOutcome.map (·.ticket)).getD 0)
      else if (s.slot i).power = .drain then reply = [0x10, 0, 0]
      else if (s.slot i).power = .idle ∨ (s.slot i).power = .vacant then False
      else ∃ o ∈ (s.slot i).operation, reply = 0x03 :: u16 o.ticket) :
    s.powerOnPassed i = (s, reply) := by
  split_ifs at hreply with hon hdrain hoff
  · rw [hreply, ← Slot.lastTicket_eq]
    simp only [State.powerOnPassed, hon]
    rfl
  · rw [hreply]
    simp only [State.powerOnPassed, hdrain]
    rfl
  · obtain ⟨o, ho, rfl⟩ := hreply
    rw [State.powerOnPassed_inFlight hfaulted hon hdrain hoff, Slot.opTicket_of_mem ho]
    rfl

/-- The record of a slot whose hold-off window has been cancelled. -/
theorem State.slot_cancelHoldOff_same (s : State) (i : SlotId) :
    (s.cancelHoldOff i).slot i = ({ s.slot i with holdOff := none } : Slot).driven s.slow.lit s.fast.lit :=
  State.slot_upd_same s i _

/-- The checks do not look at the hold-off window. -/
theorem State.powerOnCheck_cancelHoldOff (s : State) (i : SlotId) :
    ((s.cancelHoldOff i).slot i).powerOnCheck = (s.slot i).powerOnCheck := by
  rw [State.slot_cancelHoldOff_same]
  rfl

theorem powerOnRequest_badSlot {n : Byte} (s : State) (h : n.toNat = 0 ∨ 24 < n.toNat) :
    powerOnRequest [n] s = (s, [0x20, 0, 0]) := by
  simp only [powerOnRequest, readSlotField_eq_none h]
  rfl

/-- POWER-ON on a slot: the window is cancelled, then the first failing check answers or the state decides. -/
theorem powerOnRequest_slotByte (s : State) (i : SlotId) :
    powerOnRequest [slotByte i] s =
      (s.slot i).powerOnCheck.elim ((s.cancelHoldOff i).powerOnPassed i)
        fun st => (s.cancelHoldOff i, ticketReply st 0) := by
  simp only [powerOnRequest, readSlotField_slotByte, State.powerOnCheck_cancelHoldOff]
  cases (s.slot i).powerOnCheck <;> rfl

/-- Settles O14: the window is cancelled first; then either a check fails and its status is the reply, or the state is
another than IDLE and leaves everything as it is. -/
theorem powerOnWithoutJoin : Obligations.PowerOnWithoutJoin := by
  refine ⟨?_, fun s tag n howes hn => ?_⟩
  · intro s tag i reply howes sl hreply
    rw [← Slot.powerOnCheck_elim_iff] at hreply
    have hbody : powerOnRequest [slotByte i] s = (s.cancelHoldOff i, reply) := by
      rw [powerOnRequest_slotByte]
      cases hcheck : (s.slot i).powerOnCheck with
      | some st =>
        rw [hcheck] at hreply
        exact congrArg _ hreply.symm
      | none =>
        rw [hcheck] at hreply
        refine State.powerOnPassed_of_not_idle ?_ ?_ <;> rw [State.slot_cancelHoldOff_same]
        · exact fun hfaulted => Slot.powerOnCheck_of_faulted hfaulted hcheck
        · exact hreply
    rw [← State.upd_eq_becomes s i fun sl => { sl with holdOff := none }]
    exact ⟨_, rfl, howes.execute_answered hbody rfl rfl⟩
  · exact ⟨_, rfl, howes.execute_answered (powerOnRequest_badSlot s hn) rfl rfl⟩

end Sys2Proof.Machine
end

section
/-! PROOFS. Power sequencing (chapter 3): the profiles of READ-PROFILE and SET-PROFILE (R52, R53), and the POWER-OFF of
a slot in ON or DRAIN (R66 to R68, R70). -/
namespace Sys2Proof.Machine

/-! ### The fields of a profile (R52, R169) -/

/-- Two bytes carry the number of the word they make up (R169). -/
theorem be16_eq_toNat_append (h l : Byte) : be16 h l = (h ++ l : Word16).toNat := by
  rw [be16, toNat_append_byte]

theorem readFlag_flagByte (b : Bool) : readFlag (flagByte b) = some b := by
  cases b <;> rfl

theorem readProfileField_ofNat (k : Fin 4) : readProfileField (BitVec.ofNat 8 k.val) = some k := by
  have hk : (BitVec.ofNat 8 k.val).toNat = k.val := by
    rw [BitVec.toNat_ofNat]
    omega
  simp [readProfileField, hk]

theorem readProfileField_eq_none {n : Byte} (h : 3 < n.toNat) : readProfileField n = none :=
  dif_neg (by omega)

/-- The profile read is the six fields read one by one. -/
theorem readProfile_eq_some_iff {ax mn t1 t0 rr rt dg : Byte} {p : Profile} :
    readProfile ax mn t1 t0 rr rt dg = some p ↔
      readRange 0 14 ax.toNat = some p.auxCode ∧ readRange 0 14 mn.toNat = some p.mainCode ∧
      readRange 0 2000 (be16 t1 t0) = some p.settleMs ∧ readFlag rr = some p.readyRequired ∧
      readRange 0 15 rt.toNat = some p.readyCode ∧ readRange 0 15 dg.toNat = some p.graceCode := by
  obtain ⟨auxCode, mainCode, settleMs, readyRequired, readyCode, graceCode⟩ := p
  simp [readProfile, Option.bind_eq_some_iff, -Bool.exists_bool]

/-- One field outside its range and no profile is read (R52). -/
theorem readProfile_eq_none {ax mn t1 t0 rr rt dg : Byte}
    (hbad : 14 < ax.toNat ∨ 14 < mn.toNat ∨ 2000 < (t1 ++ t0 : Word16).toNat ∨ 1 < rr.toNat ∨ 15 < rt.toNat ∨
      15 < dg.toNat) :
    readProfile ax mn t1 t0 rr rt dg = none := by
  refine Option.eq_none_iff_forall_ne_some.2 fun p hp => ?_
  obtain ⟨haux, hmain, hsettle, hflag, hready, hgrace⟩ := readProfile_eq_some_iff.1 hp
  rw [readRange_eq_some_iff] at haux hmain hsettle hready hgrace
  rw [be16_eq_toNat_append] at hsettle
  have hrr : ¬ 1 < rr.toNat := fun hrr => by simp [readFlag_eq_none hrr] at hflag
  omega

/-- Fields within their ranges are read as the profile they carry (R52). -/
theorem readProfile_of_inRange {ax mn t1 t0 rt dg : Byte} (rr : Bool) (hax : ax.toNat ≤ 14) (hmn : mn.toNat ≤ 14)
    (ht : (t1 ++ t0 : Word16).toNat ≤ 2000) (hrt : rt.toNat ≤ 15) (hdg : dg.toNat ≤ 15) :
    readProfile ax mn t1 t0 (flagByte rr) rt dg =
      some ⟨ax.toNat, mn.toNat, (t1 ++ t0 : Word16).toNat, rr, rt.toNat, dg.toNat⟩ := by
  simp only [readProfile_eq_some_iff, readRange_eq_some_iff, be16_eq_toNat_append, readFlag_flagByte, and_true,
    Nat.zero_le, true_and]
  exact ⟨hax, hmn, ht, hrt, hdg⟩

/-! ### READ-PROFILE and SET-PROFILE (R52, R53) -/

theorem readProfileRequest_badValue {n : Byte} (s : State) (h : 3 < n.toNat) :
    readProfileRequest [n] s = (s, [0x21]) := by
  simp only [readProfileRequest, readProfileField_eq_none h]
  rfl

theorem readProfileRequest_ofNat (s : State) (k : Fin 4) :
    readProfileRequest [BitVec.ofNat 8 k.val] s =
      (s, [0x00, BitVec.ofNat 8 k.val, BitVec.ofNat 8 (s.profiles.get k).auxCode,
          BitVec.ofNat 8 (s.profiles.get k).mainCode] ++ u16 (s.profiles.get k).settleMs ++
        [flagByte (s.profiles.get k).readyRequired, BitVec.ofNat 8 (s.profiles.get k).readyCode,
          BitVec.ofNat 8 (s.profiles.get k).graceCode]) := by
  simp only [readProfileRequest, readProfileField_ofNat, profileBytes, flag_eq_flagByte]
  rfl

/-- A field outside its range is refused, and nothing changes (R52). -/
theorem setProfileRequest_badValue {n ax mn t1 t0 rr rt dg : Byte} (s : State)
    (hbad : 3 < n.toNat ∨ 14 < ax.toNat ∨ 14 < mn.toNat ∨ 2000 < (t1 ++ t0 : Word16).toNat ∨ 1 < rr.toNat ∨
      15 < rt.toNat ∨ 15 < dg.toNat) :
    setProfileRequest [n, ax, mn, t1, t0, rr, rt, dg] s = (s, [0x21]) := by
  obtain hn | hfields := hbad
  · simp only [setProfileRequest, readProfileField_eq_none hn]
    rfl
  · simp only [setProfileRequest, readProfile_eq_none hfields]
    cases readProfileField n <;> rfl

/-- A profile that is read is written whole (R52). -/
theorem setProfileRequest_of_some {ax mn t1 t0 rr rt dg : Byte} (s : State) (k : Fin 4) {p : Profile}
    (hread : readProfile ax mn t1 t0 rr rt dg = some p) :
    setProfileRequest [BitVec.ofNat 8 k.val, ax, mn, t1, t0, rr, rt, dg] s =
      ({ s with profiles := s.profiles.set k.val p k.isLt }, [0x00]) := by
  simp only [setProfileRequest, readProfileField_ofNat, hread]
  rfl

/-- Settles O12: READ-PROFILE answers from the state as it stands; SET-PROFILE reads a profile or refuses one. -/
theorem profiles : Obligations.Profiles := by
  refine ⟨fun s tag k howes => ?_, fun s tag n howes hn => ?_, ?_, ?_⟩
  · exact ⟨_, rfl, howes.execute_answered (readProfileRequest_ofNat s k) rfl rfl⟩
  · exact ⟨_, rfl, howes.execute_answered (readProfileRequest_badValue s hn) rfl rfl⟩
  · intro s tag n ax mn t1 t0 rr rt dg howes bad hbad
    exact ⟨_, rfl, howes.execute_answered (setProfileRequest_badValue s hbad) rfl rfl⟩
  · intro s tag ax mn t1 t0 rt dg k rr payload howes hax hmn ht hrt hdg
    have hread := readProfile_of_inRange rr hax hmn ht hrt hdg
    exact ⟨_, rfl, howes.execute_answered (setProfileRequest_of_some s k hread) rfl rfl⟩

/-! ### A release beside the other blocks (R13) -/

@[simp] theorem State.afterRelease_part (s : State) (i : SlotId) : (s.afterRelease i).part = s.part := by
  unfold State.afterRelease
  split <;> rfl

@[simp] theorem State.afterRelease_port (s : State) (i : SlotId) : (s.afterRelease i).port = s.port := by
  unfold State.afterRelease
  split <;> rfl

theorem State.afterRelease_requests (s : State) (i : SlotId) :
    (s.afterRelease i).port.requests = s.port.requests := by
  rw [State.afterRelease_port]

theorem State.afterRelease_restartAsk (s : State) (i : SlotId) :
    (s.afterRelease i).part.restartAsk = s.part.restartAsk := by
  rw [State.afterRelease_part]

/-- The state with another ticket counter. -/
def State.withTicketCounter (s : State) (n : Nat) : State := { s with part.ticketCounter := n }

/-- A release neither reads nor writes the ticket counter. -/
theorem State.afterRelease_withTicketCounter (s : State) (i : SlotId) (n : Nat) :
    (s.withTicketCounter n).afterRelease i = (s.afterRelease i).withTicketCounter n := by
  have hslot : (s.withTicketCounter n).slot i = s.slot i := rfl
  unfold State.afterRelease
  rw [hslot]
  cases (s.slot i).commitment <;> rfl

/-! ### Operations and the drain, in the form (R46, R47, R70, R73, R119) -/

/-- A slot record whose hold-off window is cancelled (R119). -/
def Slot.windowless (sl : Slot) : Slot := { sl with holdOff := none }

/-- Cancelling the hold-off window, in the form. -/
theorem State.cancelHoldOff_eq_becomes (s : State) (i : SlotId) :
    s.cancelHoldOff i = s.becomes i (s.slot i).windowless [] :=
  s.upd_eq_becomes i Slot.windowless

/-- The window plays no part in a cut or in the end of an operation. -/
theorem Slot.windowless_off_ended (sl : Slot) (st : PowerState) (outcome : OutcomeKind) (now : Word32) :
    (sl.windowless.off st).ended outcome now = ((sl.off st).ended outcome now).windowless := by
  cases ho : sl.operation <;> simp only [Slot.ended, Slot.off, Slot.windowless, ho]

theorem Slot.endPosts_of_some {sl : Slot} (i : SlotId) {o : Operation} (ho : sl.operation = some o) :
    sl.endPosts i = [(some i, EventKind.opDone)] := by
  simp [Slot.endPosts, ho]

/-- A slot record on which a power operation has been created (R46, R121). -/
def Slot.starting (sl : Slot) (o : Operation) : Slot := { sl with operation := some o, autoPending := false }

/-- The creation of a power operation (R46, R47, R121), in the form. -/
theorem State.startOperation_becomes (b : State) (i : SlotId) (sl : Slot) (os : List Occurrence) {kind : OpKind}
    (origin : Origin) (hkind : kind.isLock = false) :
    (b.becomes i sl os).startOperation i kind origin =
      (b.withTicketCounter (ticketAfter b.part.ticketCounter)).becomes i
        (sl.starting ⟨kind, b.part.ticketCounter, origin, b.part.uptime⟩) os := by
  have hrecord : (b.becomes i sl os).upd i (fun sl =>
      { sl with
        operation := some ⟨kind, b.part.ticketCounter, origin, b.part.uptime⟩
        autoPending := sl.autoPending && kind.isLock }) =
      b.becomes i (sl.starting ⟨kind, b.part.ticketCounter, origin, b.part.uptime⟩) os :=
    State.upd_becomes b i sl _ os _ (fun _ _ _ => by simp only [hkind, Bool.and_false]; rfl) rfl
  have hstart := congrArg State.advanceTicket hrecord
  refine hstart.trans ?_
  rw [State.withTicketCounter, ← nextTicket_eq_ticketAfter]
  rfl

/-- A slot record that enters DRAIN, with the profile that its index selects (R70). -/
def Slot.draining (sl : Slot) (p : Profile) : Slot :=
  sl.inStage .drain (timeoutMs p.graceCode) p.readyRequired
    (if p.readyRequired then !sl.lines.ready.held else decide (p.graceCode = 15))

/-- Entry to DRAIN (R70), in the form. -/
theorem State.enterDrain_becomes (b : State) (i : SlotId) (sl : Slot) (os : List Occurrence) :
    (b.becomes i sl os).enterDrain i = b.becomes i (sl.draining (b.profiles.get sl.profileIndex)) os := by
  have hprofile : (b.becomes i sl os).profileOf i = b.profiles.get sl.profileIndex := by
    rw [State.profileOf, State.slot_becomes_same]
    rfl
  unfold State.enterDrain
  rw [hprofile]
  exact State.upd_becomes b i sl _ os _ (fun _ _ _ => rfl) rfl

/-- A cut that ends the operation in flight (R48, R62, R73), in the form. -/
theorem State.endDrain_becomes (b : State) (i : SlotId) (sl : Slot) (os : List Occurrence) (outcome : OutcomeKind)
    (hc : sl.commitment = (b.slot i).commitment) :
    (b.becomes i sl os).endDrain i outcome =
      (b.afterRelease i).becomes i ((sl.off .idle).ended outcome b.part.uptime) (os ++ sl.endPosts i) := by
  rw [State.endDrain, State.cut_becomes b i sl os .idle hc, State.endOperation_becomes, State.afterRelease_part]
  rfl

/-! ### What a POWER-OFF does in ON and in DRAIN (R66 to R68) -/

theorem State.slot_becomes_power (b : State) (i : SlotId) (sl : Slot) (os : List Occurrence) :
    ((b.becomes i sl os).slot i).power = sl.power := by
  rw [State.slot_becomes_same]
  rfl

theorem State.slot_becomes_opTicket (b : State) (i : SlotId) (sl : Slot) (os : List Occurrence) :
    ((b.becomes i sl os).slot i).opTicket = sl.opTicket := by
  rw [State.slot_becomes_same]
  rfl

/-- In ON, without force, a drain starts under a new operation (R66). -/
theorem State.powerOffAction_on_drains (b : State) (i : SlotId) {sl : Slot} (os : List Occurrence) (origin : Origin)
    (hpower : sl.power = .on) :
    (b.becomes i sl os).powerOffAction i false origin =
      ((b.withTicketCounter (ticketAfter b.part.ticketCounter)).becomes i
        ((sl.starting ⟨.powerOff, b.part.ticketCounter, origin, b.part.uptime⟩).draining
          (b.profiles.get sl.profileIndex)) os, Status.accepted, b.part.ticketCounter) := by
  have hon := (b.slot_becomes_power i sl os).trans hpower
  simp only [State.powerOffAction, hon, Bool.false_eq_true, if_false]
  rw [State.startOperation_becomes b i sl os origin rfl, State.enterDrain_becomes]
  rfl

/-- In ON, with force, the slot is cut under a new operation that is DONE at once (R67). -/
theorem State.powerOffAction_on_cuts (b : State) (i : SlotId) {sl : Slot} (os : List Occurrence) (origin : Origin)
    (hpower : sl.power = .on) (hc : sl.commitment = (b.slot i).commitment) :
    (b.becomes i sl os).powerOffAction i true origin =
      (((b.afterRelease i).withTicketCounter (ticketAfter b.part.ticketCounter)).becomes i
        (((sl.starting ⟨.powerOff, b.part.ticketCounter, origin, b.part.uptime⟩).off .idle).ended .done
          b.part.uptime) (os ++ [(some i, EventKind.opDone)]), Status.done, b.part.ticketCounter) := by
  have hon := (b.slot_becomes_power i sl os).trans hpower
  simp only [State.powerOffAction, hon, if_true]
  rw [State.startOperation_becomes b i sl os origin rfl, ← State.endDrain, State.endDrain_becomes,
    State.afterRelease_withTicketCounter]
  · rfl
  · exact hc

/-- In DRAIN, without force, nothing changes (R68). -/
theorem State.powerOffAction_drain_waits (b : State) (i : SlotId) {sl : Slot} (os : List Occurrence) (origin : Origin)
    {o : Operation} (hpower : sl.power = .drain) (ho : sl.operation = some o) :
    (b.becomes i sl os).powerOffAction i false origin = (b.becomes i sl os, Status.already, o.ticket) := by
  have hdrain := (b.slot_becomes_power i sl os).trans hpower
  have hticket := (b.slot_becomes_opTicket i sl os).trans (Slot.opTicket_of_mem ho)
  simp only [State.powerOffAction, hdrain, hticket, Bool.false_eq_true, if_false]

/-- In DRAIN, with force, the drain ends FORCED (R68). -/
theorem State.powerOffAction_drain_forced (b : State) (i : SlotId) {sl : Slot} (os : List Occurrence) (origin : Origin)
    {o : Operation} (hpower : sl.power = .drain) (ho : sl.operation = some o)
    (hc : sl.commitment = (b.slot i).commitment) :
    (b.becomes i sl os).powerOffAction i true origin =
      ((b.afterRelease i).becomes i ((sl.off .idle).ended .forced b.part.uptime)
        (os ++ [(some i, EventKind.opDone)]), Status.done, o.ticket) := by
  have hdrain := (b.slot_becomes_power i sl os).trans hpower
  have hticket := (b.slot_becomes_opTicket i sl os).trans (Slot.opTicket_of_mem ho)
  simp only [State.powerOffAction, hdrain, hticket, if_true]
  rw [State.endDrain_becomes b i sl os .forced hc, Slot.endPosts_of_some i ho]

/-! ### POWER-OFF (R66 to R68) -/

/-- POWER-OFF on a slot with a force field in range: the window is cancelled, then the state decides. -/
theorem powerOffRequest_slotByte {s u : State} {i : SlotId} {force : Bool} {st : Status} {ticket : Nat}
    (haction : (s.becomes i (s.slot i).windowless []).powerOffAction i force .host = (u, st, ticket)) :
    powerOffRequest [slotByte i, flagByte force] s = (u, st.code :: u16 ticket) := by
  simp only [powerOffRequest, readSlotField_slotByte, readFlag_flagByte, State.cancelHoldOff_eq_becomes, haction]
  rfl

/-- An owed POWER-OFF is answered with the status and ticket of its action, in the state that the action leaves. -/
theorem powerOff_answered {s u : State} {tag : Byte} {i : SlotId} {force : Bool} {st : Status} {ticket : Nat}
    (howes : s.Owes 0x21 tag [slotByte i, flagByte force])
    (haction : (s.becomes i (s.slot i).windowless []).powerOffAction i force .host = (u, st, ticket))
    (hreq : u.port.requests = s.port.requests) (hask : u.part.restartAsk = s.part.restartAsk) :
    ∃ t, exec (.powerOff tag [slotByte i, flagByte force]) s = .next t ∧
      u.Answered t 0x21 tag (st.code :: u16 ticket) :=
  ⟨_, rfl, State.execute_answered howes (powerOffRequest_slotByte haction) hreq (hask ▸ howes.restart_not_due)⟩

/-- Settles O16: the two states with the two force values, each an action on the slot with its window cancelled. -/
theorem powerOffInOnAndDrain : Obligations.PowerOffInOnAndDrain := by
  refine ⟨fun s tag i howes hon => ?_, fun s tag i howes hon => ?_, fun s tag i o howes hdrain ho => ?_,
    fun s tag i o howes hdrain ho => ?_⟩
  · exact powerOff_answered (force := false) howes (State.powerOffAction_on_drains s i [] .host hon) rfl rfl
  · have hcuts := State.powerOffAction_on_cuts (sl := (s.slot i).windowless) s i [] .host hon rfl
    exact powerOff_answered (force := true) howes hcuts (s.afterRelease_requests i) (s.afterRelease_restartAsk i)
  · have hwaits := State.powerOffAction_drain_waits (sl := (s.slot i).windowless) s i [] .host hdrain ho
    exact powerOff_answered (force := false) howes hwaits rfl rfl
  · have hforced := State.powerOffAction_drain_forced (sl := (s.slot i).windowless) s i [] .host hdrain ho rfl
    rw [Slot.windowless_off_ended] at hforced
    exact powerOff_answered (force := true) howes hforced (s.afterRelease_requests i) (s.afterRelease_restartAsk i)

end Sys2Proof.Machine
end

section
/-! PROOFS. Faults (chapter 5): CLEAR-FAULT, which takes a slot out of FAULTED (R102, R103). -/
namespace Sys2Proof.Machine

/-! ### The body of CLEAR-FAULT (R102, R103) -/

theorem clearFaultRequest_badSlot {n : Byte} (f : Byte) (s : State) (h : n.toNat = 0 ∨ 24 < n.toNat) :
    clearFaultRequest [n, f] s = (s, [0x20]) := by
  simp only [clearFaultRequest, readSlotField_eq_none h]
  rfl

theorem clearFaultRequest_badValue {f : Byte} (i : SlotId) (s : State) (h : 1 < f.toNat) :
    clearFaultRequest [slotByte i, f] s = (s, [0x21]) := by
  simp only [clearFaultRequest, readSlotField_slotByte, readFlag_eq_none h]
  rfl

/-- CLEAR-FAULT on a slot with its flag in range: the slot takes the cleared record, and the reply carries the state and
the count of that record (R103). The outputs that follow the new record are not part of the reply. -/
theorem clearFaultRequest_slotByte (s : State) (i : SlotId) (clear : Bool) :
    clearFaultRequest [slotByte i, flagByte clear] s =
      (s.becomes i ((s.slot i).clearedFault clear) [],
        [if (s.slot i).power = .faulted then 0x00 else 0x03,
          BitVec.ofNat 8 ((s.slot i).clearedFault clear).power.code,
          BitVec.ofNat 8 ((s.slot i).clearedFault clear).faultCount]) := by
  have hstatus : (if (s.slot i).power = .faulted then Status.ok else Status.already).code =
      if (s.slot i).power = .faulted then 0x00 else 0x03 := by
    split <;> rfl
  simp only [clearFaultRequest, readSlotField_slotByte, readFlag_flagByte, State.upd_eq_becomes,
    State.slot_becomes_same, statusOnly, hstatus]
  rfl

/-- Settles O17: a request in range clears the record and reports it; a slot number or a flag out of range changes
nothing. -/
theorem clearFault : Obligations.ClearFault := by
  refine ⟨fun s tag i clear howes => ?_, fun s tag n f howes hn => ?_, fun s tag f i howes hf => ?_⟩
  · exact ⟨_, rfl, howes.execute_answered (clearFaultRequest_slotByte s i clear) rfl rfl⟩
  · exact ⟨_, rfl, howes.execute_answered (clearFaultRequest_badSlot f s hn) rfl rfl⟩
  · exact ⟨_, rfl, howes.execute_answered (clearFaultRequest_badValue i s hf) rfl rfl⟩

end Sys2Proof.Machine
end

section
/-! PROOFS. Bay sensing and operator controls (chapter 6): the expiry of a hold-off window, which acts on the state it
finds (R118). -/
namespace Sys2Proof.Machine

/-! ### What a POWER-OFF does before ON (R62, R64, R65), in the form -/

/-- A slot record whose operation has been cancelled in the queue, back in IDLE (R64). -/
def Slot.cancelled (sl : Slot) (now : Word32) : Slot := { sl.ended .cancelled now with power := .idle }

/-- In WAITING the entry leaves the queue and the operation ends CANCELLED (R64). -/
theorem State.powerOffAction_waiting_cancels (b : State) (i : SlotId) {sl : Slot} (os : List Occurrence) (force : Bool)
    (origin : Origin) (hpower : sl.power = .waiting) :
    (b.becomes i sl os).powerOffAction i force origin =
      ((b.leaveQueue i).becomes i (sl.cancelled b.part.uptime) (os ++ sl.endPosts i), Status.done, sl.opTicket) := by
  have hwaiting := (b.slot_becomes_power i sl os).trans hpower
  have hidle : ((b.leaveQueue i).becomes i (sl.ended .cancelled b.part.uptime) (os ++ sl.endPosts i)).upd i
      (fun sl => { sl with power := .idle }) =
      (b.leaveQueue i).becomes i (sl.cancelled b.part.uptime) (os ++ sl.endPosts i) :=
    State.upd_becomes _ i _ _ _ _ (fun _ _ _ => rfl) rfl
  simp only [State.powerOffAction, hwaiting, State.slot_becomes_opTicket, State.leaveQueue_becomes,
    State.endOperation_becomes, State.leaveQueue_part, hidle]

/-- In AUX_RAMP to READY_WAIT the slot is cut and its operation ends ABORTED, with force or without (R65). -/
theorem State.powerOffAction_poweringOn_aborts (b : State) (i : SlotId) {sl : Slot} (os : List Occurrence)
    (force : Bool) (origin : Origin)
    (hpower : sl.power = .auxRamp ∨ sl.power = .mainRamp ∨ sl.power = .settle ∨ sl.power = .readyWait)
    (hc : sl.commitment = (b.slot i).commitment) :
    (b.becomes i sl os).powerOffAction i force origin =
      ((b.afterRelease i).becomes i ((sl.off .idle).ended .aborted b.part.uptime) (os ++ sl.endPosts i),
        Status.done, sl.opTicket) := by
  rw [← State.endDrain_becomes b i sl os .aborted hc]
  obtain haux | hmain | hsettle | hready := hpower <;>
    simp only [State.powerOffAction, State.slot_becomes_power, State.slot_becomes_opTicket, State.endDrain, *]

/-! ### The power-on that the button asks for (R21, R24, R49) -/

/-- The status that a refused power-on of an IDLE slot records: that of the first check that fails (R21). -/
def Slot.refusal (sl : Slot) : Status :=
  if sl.hardware.enabled = false then .disabled
  else if sl.lines.present.held = false then .noModule
  else if sl.lines.lever.held = false then .leverOpen
  else if sl.hardware.lockFitted = true ∧ sl.lines.lockSense.held = false then .notLocked
  else .busy

/-- An IDLE slot that may not power on fails a check, and the first that fails gives the status. -/
theorem Slot.powerOnCheck_eq_refusal {sl : Slot} (hidle : sl.power = .idle) (hfails : ¬sl.mayPowerOn) :
    sl.powerOnCheck = some sl.refusal := by
  rw [← Slot.powerOnCheck_none] at hfails
  unfold Slot.powerOnCheck at hfails ⊢
  unfold Slot.refusal
  simp only [hidle, reduceCtorEq, if_false] at hfails ⊢
  split_ifs at hfails ⊢
  any_goals rfl
  exact absurd rfl hfails

/-- A slot record on which a power-on of the button has been refused (R49). -/
def Slot.buttonRefused (sl : Slot) (st : Status) (now : Word32) : Slot :=
  { sl with lastOutcome := some ⟨.powerOn, 0, .button, .refused, some st, now⟩ }

/-- A refused power-on of the button (R49), in the form. -/
theorem State.refuseButton_becomes (b : State) (i : SlotId) (sl : Slot) (os : List Occurrence) (st : Status) :
    (b.becomes i sl os).refuseButton i st =
      b.becomes i (sl.buttonRefused st b.part.uptime) (os ++ [(some i, EventKind.opDone)]) := by
  rw [State.refuseButton, State.upd_becomes b i sl (sl.buttonRefused st b.part.uptime) os _ (fun _ _ _ => rfl) rfl,
    State.occur_becomes]

/-! ### The expiry of the hold-off window (R118) -/

/-- A window at its end makes its expiry act. -/
theorem exec_holdOffExpiry_of_due {s u : State} {i : SlotId} (hdue : (s.slot i).holdOff = some 0)
    (hexpires : s.windowExpires i = u) : exec (.holdOffExpiry i) s = .next u.finish :=
  hexpires ▸ if_pos (decide_eq_true hdue)

/-- In IDLE a slot that passes the checks joins the queue (R24). -/
theorem State.windowExpires_idle_joins {s : State} {i : SlotId} (hidle : (s.slot i).power = .idle)
    (hpasses : (s.slot i).mayPowerOn) :
    s.windowExpires i =
      (s.afterJoin i .button false).becomes i
        ((s.slot i).windowless.joined .button s.part.ticketCounter s.part.uptime) [] := by
  simp only [State.windowExpires, hidle, State.powerOnCheck_cancelHoldOff, (Slot.powerOnCheck_none _).2 hpasses]
  rw [State.cancelHoldOff_eq_becomes, State.joinQueue_becomes s i (s.slot i).windowless [] .button false rfl]

/-- In IDLE a slot that fails a check records the refusal (R49). -/
theorem State.windowExpires_idle_refuses {s : State} {i : SlotId} (hidle : (s.slot i).power = .idle)
    (hfails : ¬(s.slot i).mayPowerOn) :
    s.windowExpires i =
      s.becomes i ((s.slot i).windowless.buttonRefused (s.slot i).refusal s.part.uptime)
        [(some i, EventKind.opDone)] := by
  simp only [State.windowExpires, hidle, State.powerOnCheck_cancelHoldOff, Slot.powerOnCheck_eq_refusal hidle hfails]
  rw [State.cancelHoldOff_eq_becomes, State.refuseButton_becomes, List.nil_append]

/-- In WAITING the expiry cancels (R69). -/
theorem State.windowExpires_waiting_cancels {s : State} {i : SlotId} (hwaiting : (s.slot i).power = .waiting) :
    s.windowExpires i =
      (s.leaveQueue i).becomes i ((s.slot i).windowless.cancelled s.part.uptime) ((s.slot i).endPosts i) := by
  have hcancels := State.powerOffAction_waiting_cancels (sl := (s.slot i).windowless) s i [] false .button hwaiting
  simp only [State.windowExpires, hwaiting, State.cancelHoldOff_eq_becomes]
  exact congrArg Prod.fst hcancels

/-- In AUX_RAMP to READY_WAIT the expiry aborts (R69). -/
theorem State.windowExpires_poweringOn_aborts {s : State} {i : SlotId}
    (hpower : (s.slot i).power = .auxRamp ∨ (s.slot i).power = .mainRamp ∨ (s.slot i).power = .settle ∨
      (s.slot i).power = .readyWait) :
    s.windowExpires i =
      (s.afterRelease i).becomes i (((s.slot i).windowless.off .idle).ended .aborted s.part.uptime)
        ((s.slot i).endPosts i) := by
  have haborts := State.powerOffAction_poweringOn_aborts (sl := (s.slot i).windowless) s i [] false .button hpower rfl
  refine Eq.trans ?_ (congrArg Prod.fst haborts)
  obtain haux | hmain | hsettle | hready := hpower <;>
    simp only [State.windowExpires, State.cancelHoldOff_eq_becomes, *]

/-- In ON the expiry starts a drain (R69). -/
theorem State.windowExpires_on_drains {s : State} {i : SlotId} (hon : (s.slot i).power = .on) :
    s.windowExpires i =
      (s.withTicketCounter (ticketAfter s.part.ticketCounter)).becomes i
        (((s.slot i).windowless.starting ⟨.powerOff, s.part.ticketCounter, .button, s.part.uptime⟩).draining
          (s.profiles.get (s.slot i).profileIndex)) [] := by
  have hdrains := State.powerOffAction_on_drains (sl := (s.slot i).windowless) s i [] .button hon
  simp only [State.windowExpires, hon, State.cancelHoldOff_eq_becomes]
  exact congrArg Prod.fst hdrains

/-- In DRAIN, VACANT and FAULTED the window ends and nothing else happens. -/
theorem State.windowExpires_elsewhere {s : State} {i : SlotId}
    (hpower : (s.slot i).power = .drain ∨ (s.slot i).power = .vacant ∨ (s.slot i).power = .faulted) :
    s.windowExpires i = s.becomes i (s.slot i).windowless [] := by
  obtain hdrain | hvacant | hfaulted := hpower <;>
    simp only [State.windowExpires, State.cancelHoldOff_eq_becomes, *]

/-- Settles O47: by the power state that the expiry finds. -/
theorem holdOffExpires : Obligations.HoldOffExpires := by
  intro s i sl now expired p hdue
  refine ⟨fun hidle hpasses => ?_, fun hidle hfails => ?_, fun hwaiting => ?_, fun hpower => ?_, fun hon => ?_,
    fun hpower => ?_⟩
  · exact exec_holdOffExpiry_of_due hdue (State.windowExpires_idle_joins hidle hpasses)
  · exact exec_holdOffExpiry_of_due hdue (State.windowExpires_idle_refuses hidle hfails)
  · exact exec_holdOffExpiry_of_due hdue (State.windowExpires_waiting_cancels hwaiting)
  · simp only [List.mem_cons, List.not_mem_nil, or_false] at hpower
    exact exec_holdOffExpiry_of_due hdue (State.windowExpires_poweringOn_aborts hpower)
  · exact exec_holdOffExpiry_of_due hdue (State.windowExpires_on_drains hon)
  · exact exec_holdOffExpiry_of_due hdue (State.windowExpires_elsewhere hpower)

end Sys2Proof.Machine
end

section
/-! PROOFS. Indicators (chapter 7), the display: every operation of the part leaves each slot's outputs at what its
record and the patterns call for (R44, R123, R132), and the patterns within their ranges (R136). -/
namespace Sys2Proof.Machine

/-! ### The laws of the display -/

/-- The outputs follow the records, and both patterns are lawful (R132, R136). -/
def State.DisplayLawful (s : State) : Prop := s.OutputsFollow ∧ s.slow.Lawful ∧ s.fast.Lawful

/-- Reading a record after every record has been changed. -/
theorem State.slot_of_map {s t : State} {f : Slot → Slot} (h : t.slots = s.slots.map f) (i : SlotId) :
    t.slot i = f (s.slot i) := by
  simp [State.slot_eq_getElem, h]

/-- With more committed than the ceiling allows, the next victim is shed and shedding goes on (R75). -/
theorem State.shedLoop_succ_of_over {s : State} (h : ¬s.budget.committed ≤ s.budget.ceiling) (n : Nat) :
    s.shedLoop (n + 1) = s.victim.elim s fun i => (s.shedVictim i).shedLoop n := by
  refine (if_neg h).trans ?_
  cases s.victim <;> rfl

namespace State.DisplayLawful

/-! ### The ways a state is written -/

section
variable {s t : State}

theorem outputs (h : s.DisplayLawful) : s.OutputsFollow := h.1

theorem slow (h : s.DisplayLawful) : s.slow.Lawful := h.2.1

theorem fast (h : s.DisplayLawful) : s.fast.Lawful := h.2.2

/-- The patterns may change beside the records, so long as each stays lit or unlit as it was. -/
theorem of_lit_eq (h : s.DisplayLawful) (hslots : t.slots = s.slots) (hslowLit : t.slow.lit = s.slow.lit)
    (hfastLit : t.fast.lit = s.fast.lit) (hslow : t.slow.Lawful) (hfast : t.fast.Lawful) : t.DisplayLawful := by
  refine ⟨fun i => ?_, hslow, hfast⟩
  rw [State.slot_eq_of_slots hslots, hslowLit, hfastLit]
  exact h.outputs i

/-- The laws read the records and the patterns alone. -/
theorem congr (h : s.DisplayLawful) (hslots : t.slots = s.slots) (hslow : t.slow = s.slow) (hfast : t.fast = s.fast) :
    t.DisplayLawful :=
  h.of_lit_eq hslots (by rw [hslow]) (by rw [hfast]) (hslow ▸ h.slow) (hfast ▸ h.fast)

theorem withPart (h : s.DisplayLawful) (part : PartWide) : ({ s with part := part } : State).DisplayLawful :=
  h.congr rfl rfl rfl

theorem withBudget (h : s.DisplayLawful) (b : Budget) : ({ s with budget := b } : State).DisplayLawful :=
  h.congr rfl rfl rfl

theorem withAdmission (h : s.DisplayLawful) (a : Admission) : ({ s with admission := a } : State).DisplayLawful :=
  h.congr rfl rfl rfl

theorem withAccounts (h : s.DisplayLawful) (b : Budget) (a : Admission) :
    ({ s with budget := b, admission := a } : State).DisplayLawful :=
  h.congr rfl rfl rfl

theorem withEvents (h : s.DisplayLawful) (e : Events) : ({ s with events := e } : State).DisplayLawful :=
  h.congr rfl rfl rfl

theorem withPort (h : s.DisplayLawful) (p : Port) : ({ s with port := p } : State).DisplayLawful :=
  h.congr rfl rfl rfl

/-- Every record may change at once, so long as each record that follows the old patterns is taken to one that follows
the new ones. -/
theorem of_map (h : s.DisplayLawful) {f : Slot → Slot} (hslots : t.slots = s.slots.map f)
    (hf : ∀ sl : Slot, sl.out = sl.outputs s.slow.lit s.fast.lit → (f sl).out = (f sl).outputs t.slow.lit t.fast.lit)
    (hslow : t.slow.Lawful) (hfast : t.fast.Lawful) : t.DisplayLawful := by
  refine ⟨fun i => ?_, hslow, hfast⟩
  rw [State.slot_of_map hslots]
  exact hf _ (h.outputs i)

/-- A record is written with its outputs driven. -/
theorem setSlot (h : s.DisplayLawful) (i : SlotId) (sl : Slot) : (s.setSlot i sl).DisplayLawful := by
  refine ⟨fun j => ?_, h.slow, h.fast⟩
  by_cases hj : j = i
  · subst hj
    simp
  · simpa [hj] using h.outputs j

theorem upd (h : s.DisplayLawful) (i : SlotId) (f : Slot → Slot) : (s.upd i f).DisplayLawful := h.setSlot i _

theorem updLines (h : s.DisplayLawful) (i : SlotId) (f : BayLines → BayLines) : (s.updLines i f).DisplayLawful :=
  h.upd i _

theorem cancelHoldOff (h : s.DisplayLawful) (i : SlotId) : (s.cancelHoldOff i).DisplayLawful := h.upd i _

theorem realert (h : s.DisplayLawful) : s.realert.DisplayLawful := h.congr rfl rfl rfl

theorem markPass (h : s.DisplayLawful) : s.markPass.DisplayLawful := h.congr rfl rfl rfl

theorem leaveQueue (h : s.DisplayLawful) (i : SlotId) : (s.leaveQueue i).DisplayLawful := h.congr rfl rfl rfl

theorem clearMarks (h : s.DisplayLawful) : s.clearMarks.DisplayLawful := h.congr rfl rfl rfl

theorem answer (h : s.DisplayLawful) (tag : Byte) (reply : List Byte) : (s.answer tag reply).DisplayLawful :=
  h.congr rfl rfl rfl

theorem finish (h : s.DisplayLawful) : s.finish.DisplayLawful := h.congr (by simp) (by simp) (by simp)

/-! ### Events, operations and cuts (R48, R62, R141) -/

theorem setPending (h : s.DisplayLawful) (who : Option SlotId) (set : Word16) :
    (s.setPending who set).DisplayLawful := by
  cases who with
  | none => exact h.congr rfl rfl rfl
  | some i => exact h.upd i _

theorem occur (h : s.DisplayLawful) (who : Option SlotId) (k : EventKind) : (s.occur who k).DisplayLawful := by
  refine ⟨fun j => ?_, by simpa using h.slow, by simpa using h.fast⟩
  by_cases hj : who = some j
  · subst hj
    simp
  · simpa [hj] using h.outputs j

theorem startOperation (h : s.DisplayLawful) (i : SlotId) (kind : OpKind) (origin : Origin) :
    (s.startOperation i kind origin).DisplayLawful :=
  (h.upd i _).withPart _

theorem endOperation (h : s.DisplayLawful) (i : SlotId) (outcome : OutcomeKind) :
    (s.endOperation i outcome).DisplayLawful := by
  unfold State.endOperation
  split
  · exact h
  · exact (h.upd i _).occur _ _

theorem release (h : s.DisplayLawful) (i : SlotId) : (s.release i).DisplayLawful := by
  unfold State.release
  split
  · exact h
  · exact (h.withAccounts _ _).upd i _

theorem freeInrush (h : s.DisplayLawful) (i : SlotId) : (s.freeInrush i).DisplayLawful := by
  unfold State.freeInrush
  split
  · exact h
  · exact (h.withAdmission _).upd i _

theorem cutQuiet (h : s.DisplayLawful) (i : SlotId) (st : PowerState) : (s.cutQuiet i st).DisplayLawful :=
  (h.release i).upd i _

theorem cut (h : s.DisplayLawful) (i : SlotId) (st : PowerState) : (s.cut i st).DisplayLawful := by
  unfold State.cut
  split
  · exact (h.cutQuiet i st).markPass
  · exact h.cutQuiet i st

theorem raiseFault (h : s.DisplayLawful) (i : SlotId) (kind : FaultKind) : (s.raiseFault i kind).DisplayLawful :=
  ((((h.upd i _).cut i _).endOperation i _).occur _ _).cancelHoldOff i

/-! ### The admission queue and the passes (R23, R36, R39, R122) -/

theorem joinQueue (h : s.DisplayLawful) (i : SlotId) (origin : Origin) (mark : Bool) :
    (s.joinQueue i origin mark).DisplayLawful :=
  ((h.startOperation i _ _).withAdmission _).upd i _

theorem autoAttempt (h : s.DisplayLawful) (i : SlotId) : (s.autoAttempt i).DisplayLawful := by
  unfold State.autoAttempt
  dsimp only
  split
  · exact h.joinQueue i _ _
  · exact h

theorem admitSlot (h : s.DisplayLawful) (i : SlotId) (draw : Nat) : (s.admitSlot i draw).DisplayLawful :=
  ((h.withAccounts _ _).upd i _).upd i _

theorem passWalk_fst (q : List QueueEntry) : ∀ {s : State}, s.DisplayLawful → (passWalk q s).1.DisplayLawful := by
  induction q with
  | nil => exact id
  | cons e rest ih =>
    intro s h
    unfold passWalk
    split
    · exact ih h
    · exact h
    · exact ih (h.admitSlot e.slot _)
    · exact ih h

theorem pass (h : s.DisplayLawful) : s.pass.DisplayLawful :=
  (passWalk_fst s.admission.queue (h.withAdmission _)).withAdmission _

/-! ### Stages, drains and lock operations (R55 to R73, R124, R126) -/

theorem endSettle (h : s.DisplayLawful) (i : SlotId) : (s.endSettle i).DisplayLawful := by
  unfold State.endSettle
  dsimp only
  split
  · exact (h.freeInrush i).markPass.upd i _
  · exact ((h.freeInrush i).markPass.upd i _).endOperation i _

theorem endReadyWait (h : s.DisplayLawful) (i : SlotId) : (s.endReadyWait i).DisplayLawful :=
  (h.upd i _).endOperation i _

theorem endDrain (h : s.DisplayLawful) (i : SlotId) (outcome : OutcomeKind) : (s.endDrain i outcome).DisplayLawful :=
  (h.cut i _).endOperation i _

theorem powerOffAction_fst (h : s.DisplayLawful) (i : SlotId) (force : Bool) (origin : Origin) :
    (s.powerOffAction i force origin).1.DisplayLawful := by
  unfold State.powerOffAction
  dsimp only
  cases (s.slot i).power with
  | vacant | idle | faulted => exact h
  | waiting => exact ((h.leaveQueue i).endOperation i _).upd i _
  | auxRamp | mainRamp | settle | readyWait => exact (h.cut i _).endOperation i _
  | on =>
    cases force with
    | true => exact ((h.startOperation i _ _).cut i _).endOperation i _
    | false => exact (h.startOperation i _ _).upd i _
  | drain =>
    cases force with
    | true => exact h.endDrain i _
    | false => exact h

theorem endLock (h : s.DisplayLawful) (i : SlotId) (outcome : OutcomeKind) : (s.endLock i outcome).DisplayLawful :=
  (h.upd i _).endOperation i _

theorem lockDone (h : s.DisplayLawful) (i : SlotId) (kind : OpKind) : (s.lockDone i kind).DisplayLawful := by
  unfold State.lockDone
  dsimp only
  split
  · exact (h.endLock i _).autoAttempt i
  · exact h.endLock i _

/-! ### The ceiling and shedding (R6, R75) -/

theorem shedVictim (h : s.DisplayLawful) (i : SlotId) : (s.shedVictim i).DisplayLawful := by
  unfold State.shedVictim
  dsimp only
  split
  · exact (((h.cut i _).endOperation i _).occur _ _).joinQueue i _ _
  · exact ((h.cut i _).endOperation i _).occur _ _

theorem shedLoop (n : Nat) : ∀ {s : State}, s.DisplayLawful → (s.shedLoop n).DisplayLawful := by
  induction n with
  | zero => exact id
  | succ n ih =>
    intro s h
    by_cases hcovered : s.budget.committed ≤ s.budget.ceiling
    · rw [State.shedLoop_of_committed_le hcovered]
      exact h
    · rw [State.shedLoop_succ_of_over hcovered]
      cases s.victim with
      | none => exact h
      | some i => exact ih (h.shedVictim i)

theorem recompute (h : s.DisplayLawful) : s.recompute.DisplayLawful := by
  unfold State.recompute
  dsimp only
  split
  · exact h
  · have hoccur := (h.withBudget { s.budget with ceiling := s.budget.computed }).occur none .ceiling
    split
    · exact hoccur.clearMarks.markPass
    · exact shedLoop 24 hoccur

theorem supplyChange (h : s.DisplayLawful) (n : SupplyId) (good : Bool) : (s.supplyChange n good).DisplayLawful :=
  ((h.withBudget _).occur none .supply).recompute

/-! ### The bay (chapter 6) -/

theorem moduleArrives (h : s.DisplayLawful) (i : SlotId) : (s.moduleArrives i).DisplayLawful :=
  ((h.upd i _).occur _ _).autoAttempt i

theorem inserted (h : s.DisplayLawful) (i : SlotId) : (s.inserted i).DisplayLawful := by
  unfold State.inserted
  cases (s.slot i).power with
  | vacant => exact h.moduleArrives i
  | faulted => exact (h.upd i _).occur _ _
  | idle | waiting | auxRamp | mainRamp | settle | readyWait | on | drain => exact h

theorem insertion (h : s.DisplayLawful) (i : SlotId) (class0 class1 : Bool) :
    (s.insertion i class0 class1).DisplayLawful := by
  unfold State.insertion
  dsimp only
  split
  · exact (h.updLines i _).inserted i
  · exact h.updLines i _

theorem tolerantRemoval (h : s.DisplayLawful) (i : SlotId) : (s.tolerantRemoval i).DisplayLawful :=
  ((((h.cancelHoldOff i).cut i _).endOperation i _).upd i _).occur _ _

theorem removedLive (h : s.DisplayLawful) (i : SlotId) : (s.removedLive i).DisplayLawful :=
  ((h.raiseFault i _).upd i _).occur _ _

/-- The removal of a powered module, surprise-tolerant or not (R113). -/
theorem poweredRemoval (h : s.DisplayLawful) (i : SlotId) (c : Prop) [Decidable c] :
    (if c then s.tolerantRemoval i else s.removedLive i).DisplayLawful := by
  split
  · exact h.tolerantRemoval i
  · exact h.removedLive i

theorem removed (h : s.DisplayLawful) (i : SlotId) : (s.removed i).DisplayLawful := by
  unfold State.removed
  cases (s.slot i).power with
  | idle => exact ((h.cancelHoldOff i).upd i _).occur _ _
  | waiting => exact ((((h.cancelHoldOff i).leaveQueue i).endOperation i _).upd i _).occur _ _
  | faulted => exact (h.upd i _).occur _ _
  | vacant => exact h.upd i _
  | auxRamp | mainRamp | settle | readyWait | on | drain => exact h.poweredRemoval i _

theorem removal (h : s.DisplayLawful) (i : SlotId) : (s.removal i).DisplayLawful := by
  unfold State.removal
  dsimp only
  split
  · exact (h.updLines i _).removed i
  · exact h.updLines i _

theorem leverOpened (h : s.DisplayLawful) (i : SlotId) : (s.leverOpened i).DisplayLawful := by
  unfold State.leverOpened
  dsimp only
  split
  · exact h.raiseFault i _
  · split
    · exact h.endLock i _
    · exact h

/-- What follows a line that may have seated the slot: the pass-due mark, or the auto-start attempt (R29, R122). -/
theorem markPass_or_autoAttempt (h : s.DisplayLawful) (i : SlotId) (c : Prop) [Decidable c] :
    (if c then s.markPass else s.autoAttempt i).DisplayLawful := by
  split
  · exact h.markPass
  · exact h.autoAttempt i

theorem leverChange (h : s.DisplayLawful) (i : SlotId) (closed : Bool) : (s.leverChange i closed).DisplayLawful := by
  have hlines := h.updLines i fun l => { l with lever := .take closed }
  unfold State.leverChange
  dsimp only
  split
  · exact hlines
  · split
    · exact (hlines.occur _ _).markPass_or_autoAttempt i _
    · exact (hlines.leverOpened i).occur _ _

theorem togglePress (h : s.DisplayLawful) (i : SlotId) : (s.togglePress i).DisplayLawful := by
  unfold State.togglePress
  cases (s.slot i).power with
  | vacant | faulted => exact h
  | idle | waiting | auxRamp | mainRamp | settle | readyWait | on | drain => exact h.upd i _

theorem buttonPress (h : s.DisplayLawful) (i : SlotId) : (s.buttonPress i).DisplayLawful := by
  have hlines := h.updLines i fun l => { l with button := .take true }
  unfold State.buttonPress
  dsimp only
  split
  · exact hlines
  · split
    · exact hlines.occur _ _
    · exact (hlines.occur _ _).togglePress i

theorem windowExpires (h : s.DisplayLawful) (i : SlotId) : (s.windowExpires i).DisplayLawful := by
  have hcancelled := h.cancelHoldOff i
  unfold State.windowExpires
  dsimp only
  cases (s.slot i).power with
  | idle =>
    dsimp only
    split
    · exact hcancelled.joinQueue i _ _
    · exact (hcancelled.upd i _).occur _ _
  | waiting | auxRamp | mainRamp | settle | readyWait | on => exact hcancelled.powerOffAction_fst i _ _
  | drain | vacant | faulted => exact hcancelled

theorem lockSenseChange (h : s.DisplayLawful) (i : SlotId) (engaged : Bool) :
    (s.lockSenseChange i engaged).DisplayLawful := by
  have hlines := h.updLines i fun l => { l with lockSense := .take engaged }
  unfold State.lockSenseChange
  dsimp only
  split
  · exact hlines
  · split
    · split
      · exact hlines.lockDone i _
      · exact hlines
    · unfold State.lockMoved
      dsimp only
      split
      · exact hlines.occur _ _
      · exact (hlines.occur _ _).markPass_or_autoAttempt i _

theorem dueLockEnd (h : s.DisplayLawful) (i : SlotId) : (s.dueLockEnd i).DisplayLawful := by
  have htaken := h.upd i fun sl => { sl with lockEndDue := none }
  unfold State.dueLockEnd
  dsimp only
  split
  · split
    · exact htaken.lockDone i _
    · exact htaken
  · exact htaken

/-! ### The sequencers and the fault monitors (chapters 3 and 5) -/

theorem auxGoodRise (h : s.DisplayLawful) (i : SlotId) : (s.auxGoodRise i).DisplayLawful := by
  unfold State.auxGoodRise
  dsimp only
  split
  · exact (h.updLines i _).upd i _
  · exact h.updLines i _

theorem mainGoodRise (h : s.DisplayLawful) (i : SlotId) : (s.mainGoodRise i).DisplayLawful := by
  unfold State.mainGoodRise
  dsimp only
  split
  · exact (h.updLines i _).upd i _
  · exact h.updLines i _

theorem readyRise (h : s.DisplayLawful) (i : SlotId) : (s.readyRise i).DisplayLawful := by
  unfold State.readyRise
  dsimp only
  split
  · exact State.DisplayLawful.endReadyWait (h.updLines i _) i
  · exact h.updLines i _

theorem stageEnd (h : s.DisplayLawful) (i : SlotId) : (s.stageEnd i).DisplayLawful := by
  unfold State.stageEnd
  cases (s.slot i).power with
  | auxRamp | mainRamp => exact h.upd i _
  | settle => exact h.endSettle i
  | readyWait => exact h.endReadyWait i
  | vacant | idle | waiting | on | drain | faulted => exact h

theorem deadlineExpiry (h : s.DisplayLawful) (i : SlotId) : (s.deadlineExpiry i).DisplayLawful := by
  unfold State.deadlineExpiry
  split
  · exact h.raiseFault i _
  · exact h

theorem readyFall (h : s.DisplayLawful) (i : SlotId) : (s.readyFall i).DisplayLawful := by
  unfold State.readyFall
  dsimp only
  split
  · exact State.DisplayLawful.endDrain (h.updLines i _) i _
  · exact h.updLines i _

/-- A fault that a condition decides on. -/
theorem raiseFault_if (h : s.DisplayLawful) (i : SlotId) (kind : FaultKind) (c : Prop) [Decidable c] :
    (if c then s.raiseFault i kind else s).DisplayLawful := by
  split
  · exact h.raiseFault i kind
  · exact h

theorem faultLineRise (h : s.DisplayLawful) (i : SlotId) : (s.faultLineRise i).DisplayLawful :=
  raiseFault_if (h.updLines i _) i _ _

theorem dueOvercurrent (h : s.DisplayLawful) (i : SlotId) : (s.dueOvercurrent i).DisplayLawful :=
  raiseFault_if (h.upd i _) i _ _

theorem takeRailDown (h : s.DisplayLawful) (i : SlotId) (rail : Rail) : (s.takeRailDown i rail).DisplayLawful := by
  cases rail with
  | aux => exact h.updLines i _
  | main => exact h.updLines i _

theorem railFall (h : s.DisplayLawful) (i : SlotId) (rail : Rail) : (s.railFall i rail).DisplayLawful :=
  (h.takeRailDown i rail).raiseFault_if i _ _

theorem dueRailLost (h : s.DisplayLawful) (i : SlotId) (rail : Rail) : (s.dueRailLost i rail).DisplayLawful :=
  raiseFault_if (h.upd i _) i _ _

end

end State.DisplayLawful

/-! ### The blink patterns (R136 to R138) -/

theorem BlinkPattern.boundary_lawful {b : BlinkPattern} (h : b.Lawful) : b.boundary.Lawful := by
  obtain ⟨hrange, -, hwaiting⟩ := h
  unfold BlinkPattern.boundary
  split
  · exact ⟨hrange, by dsimp only; omega, hwaiting⟩
  · rename_i period onTime hw
    have hnew : blinkRange period onTime := hwaiting (period, onTime) hw
    exact ⟨hnew, by dsimp only; omega, by simp⟩

theorem BlinkPattern.leaveOnTime_lawful {b : BlinkPattern} (h : b.Lawful) (hend : b.atOnTimeEnd = true) :
    b.leaveOnTime.Lawful := by
  obtain ⟨hrange, -, hwaiting⟩ := h
  simp only [BlinkPattern.atOnTimeEnd, Bool.and_eq_true, decide_eq_true_eq] at hend
  obtain ⟨⟨-, hphase⟩, -⟩ := hend
  exact ⟨hrange, hphase, hwaiting⟩

theorem BlinkPattern.tick_lawful {b : BlinkPattern} (h : b.Lawful) : b.tick.Lawful := by
  obtain ⟨hrange, hphase, hwaiting⟩ := h
  unfold BlinkPattern.tick
  split
  · exact ⟨hrange, hphase, hwaiting⟩
  · exact ⟨hrange, by dsimp only; omega, hwaiting⟩

/-- A tick of its own leaves a pattern lit or unlit as it was: the raise that changes that is a happening (log 13). -/
theorem BlinkPattern.tick_lit (b : BlinkPattern) : b.tick.lit = b.lit := by
  unfold BlinkPattern.tick
  split
  · rfl
  · simp only [BlinkPattern.lit, decide_eq_decide]
    omega

theorem State.DisplayLawful.pattern {s : State} (h : s.DisplayLawful) (p : Pattern) : (s.pattern p).Lawful := by
  cases p with
  | slow => exact h.slow
  | fast => exact h.fast

/-- A change of a pattern drives every output anew. -/
theorem State.DisplayLawful.changePattern {s : State} (h : s.DisplayLawful) (p : Pattern) {b : BlinkPattern}
    (hb : b.Lawful) : (s.changePattern p b).DisplayLawful := by
  cases p with
  | slow => exact h.of_map (f := Slot.driven b.lit s.fast.lit) rfl (fun _ _ => rfl) hb h.fast
  | fast => exact h.of_map (f := Slot.driven s.slow.lit b.lit) rfl (fun _ _ => rfl) h.slow hb

/-! ### One tick of the time base (R181) -/

theorem State.DisplayLawful.drivePin {s : State} (h : s.DisplayLawful) (p : Pin) (v : Bool) :
    (s.drivePin p v).DisplayLawful := by
  cases p with
  | supplyGood | restart | rateA | rateB => exact h.congr rfl rfl rfl
  | present i | class0 i | class1 i | lever i | button i | lockSense i | auxGood i | mainGood i | ready i | fault i =>
    exact h.updLines i _

theorem State.DisplayLawful.drivePins (pins : List (Pin × Bool)) :
    ∀ {s : State}, s.DisplayLawful → (pins.foldl (fun s c => s.drivePin c.1 c.2) s).DisplayLawful := by
  induction pins with
  | nil => exact id
  | cons c rest ih => exact fun h => ih (h.drivePin c.1 c.2)

theorem State.DisplayLawful.driveWires {s : State} (h : s.DisplayLawful) : s.driveWires.DisplayLawful := by
  unfold State.driveWires
  split
  · exact h
  · exact State.DisplayLawful.drivePins _ (h.congr rfl rfl rfl)

/-- A hold-off window that runs down to 0 is open until its expiry is taken, so the attention indicator keeps its mode
(R134). -/
theorem Slot.tick_outputs (sl : Slot) (a b : Bool) : sl.tick.outputs a b = sl.outputs a b := by
  have hwindow : sl.tick.holdOff.isSome = sl.holdOff.isSome := Option.isSome_map
  have hattn : sl.tick.attnMode = sl.attnMode := by
    simp only [Slot.attnMode, hwindow]
    rfl
  simp only [Slot.outputs, hattn]
  rfl

theorem State.DisplayLawful.tick {s : State} (h : s.DisplayLawful) : s.tick.DisplayLawful := by
  have hdriven := h.driveWires
  refine hdriven.of_map (f := Slot.tick) rfl (fun sl hsl => ?_) (BlinkPattern.tick_lawful hdriven.slow)
    (BlinkPattern.tick_lawful hdriven.fast)
  show sl.out = sl.tick.outputs s.driveWires.slow.tick.lit s.driveWires.fast.tick.lit
  rw [Slot.tick_outputs, BlinkPattern.tick_lit, BlinkPattern.tick_lit]
  exact hsl

/-! ### Restarts (chapter 11) -/

theorem BlinkPattern.slowReset_lawful : BlinkPattern.slowReset.Lawful := by decide

theorem BlinkPattern.fastReset_lawful : BlinkPattern.fastReset.Lawful := by decide

/-- A record at its power-on values shows dark outputs, whatever its hardware settings and lines (R139). -/
theorem Slot.reset_outputs (hw : Hardware) (l : BayLines) (a b : Bool) :
    ({ Slot.reset with hardware := hw, lines := l } : Slot).outputs a b = .dark := rfl

namespace State.DisplayLawful

section
variable {s : State}

theorem powerOnReset (h : s.DisplayLawful) (rateA rateB : Bool) : (s.powerOnReset rateA rateB).DisplayLawful :=
  h.of_map (f := fun sl => { Slot.reset with lines := sl.lines.firstSamples }) rfl
    (fun sl _ => (Slot.reset_outputs .reset sl.lines.firstSamples _ _).symm)
    BlinkPattern.slowReset_lawful BlinkPattern.fastReset_lawful

theorem restartEvents (h : s.DisplayLawful) : s.restartEvents.DisplayLawful := by
  refine State.DisplayLawful.occur ?_ none .restarted
  exact h.of_map (f := fun sl => { sl with pendingSet := 0 }) rfl (fun _ hsl => hsl) h.slow h.fast

theorem restartCaused (h : s.DisplayLawful) (cause : RestartCause) : (s.restartCaused cause).DisplayLawful :=
  h.congr rfl rfl rfl

theorem rideThroughControls (h : s.DisplayLawful) : s.rideThroughControls.DisplayLawful :=
  h.of_map (f := fun sl => ((sl.discardControls s.part.uptime).leaveWaiting).driven s.slow.lit s.fast.lit) rfl
    (fun _ _ => rfl) h.slow h.fast

theorem rideThroughSlot (h : s.DisplayLawful) (i : SlotId) : (s.rideThroughSlot i).DisplayLawful := by
  unfold State.rideThroughSlot
  dsimp only
  split
  · exact (h.cutQuiet i _).upd i _
  · exact h

theorem rideThroughSlots (slots : List SlotId) :
    ∀ {s : State}, s.DisplayLawful → (slots.foldl State.rideThroughSlot s).DisplayLawful := by
  induction slots with
  | nil => exact id
  | cons i rest ih => exact fun h => ih (h.rideThroughSlot i)

theorem rideThrough (h : s.DisplayLawful) (cause : RestartCause) : (s.rideThrough cause).DisplayLawful := by
  have hslots := rideThroughSlots allSlots (h.withPort s.port.restarted).rideThroughControls
  exact (hslots.withBudget _).restartEvents.restartCaused cause

theorem fullRestart (h : s.DisplayLawful) : s.fullRestart.DisplayLawful :=
  State.DisplayLawful.restartCaused
    (State.DisplayLawful.restartEvents
      (h.of_map (f := fun sl => sl.fullRestart s.part.frozen) rfl (fun _ _ => (Slot.reset_outputs _ _ _ _).symm)
        BlinkPattern.slowReset_lawful BlinkPattern.fastReset_lawful)) .restartRequest

theorem requestedRestart (h : s.DisplayLawful) : s.requestedRestart.DisplayLawful := by
  unfold State.requestedRestart
  split
  · exact h.rideThrough _
  · exact h.fullRestart
  · exact h
  · exact h

/-! ### The requests (chapter 10) -/

theorem identifyRequest_fst (h : s.DisplayLawful) (payload : List Byte) :
    (identifyRequest payload s).1.DisplayLawful := by
  unfold identifyRequest
  split <;> exact h

theorem grantRequest_fst (h : s.DisplayLawful) (payload : List Byte) : (grantRequest payload s).1.DisplayLawful := by
  unfold grantRequest
  split
  · exact h.congr rfl rfl rfl
  · exact h

theorem readLinkRequest_fst (h : s.DisplayLawful) (payload : List Byte) :
    (readLinkRequest payload s).1.DisplayLawful := by
  unfold readLinkRequest
  split
  · split
    · exact h
    · dsimp only
      split
      · exact h.congr rfl rfl rfl
      · exact h
  · exact h

theorem setNoticesRequest_fst (h : s.DisplayLawful) (payload : List Byte) :
    (setNoticesRequest payload s).1.DisplayLawful := by
  unfold setNoticesRequest
  split
  · dsimp only
    split
    · exact (h.withEvents _).realert
    · exact h
  · exact h

theorem readSlotRequest_fst (h : s.DisplayLawful) (payload : List Byte) :
    (readSlotRequest payload s).1.DisplayLawful := by
  unfold readSlotRequest
  split
  · split <;> exact h
  · exact h

theorem readQueueRequest_fst (h : s.DisplayLawful) (payload : List Byte) :
    (readQueueRequest payload s).1.DisplayLawful := by
  unfold readQueueRequest
  split <;> exact h

theorem readBudgetRequest_fst (h : s.DisplayLawful) (payload : List Byte) :
    (readBudgetRequest payload s).1.DisplayLawful := by
  unfold readBudgetRequest
  split <;> exact h

theorem readEventsRequest_fst (h : s.DisplayLawful) (payload : List Byte) :
    (readEventsRequest payload s).1.DisplayLawful := by
  unfold readEventsRequest
  split
  · split
    · exact h.congr rfl rfl rfl
    · split
      · exact h
      · split <;> exact h
  · exact h

theorem acknowledge (h : s.DisplayLawful) (who : Option SlotId) (kinds : Word16) :
    (s.acknowledge who kinds).DisplayLawful :=
  ((h.setPending who _).withEvents _).realert

theorem ackEventsRequest_fst (h : s.DisplayLawful) (payload : List Byte) :
    (ackEventsRequest payload s).1.DisplayLawful := by
  unfold ackEventsRequest
  split
  · split
    · exact h
    · dsimp only
      split
      · exact h.acknowledge _ _
      · exact h
  · exact h

theorem readProfileRequest_fst (h : s.DisplayLawful) (payload : List Byte) :
    (readProfileRequest payload s).1.DisplayLawful := by
  unfold readProfileRequest
  split
  · split <;> exact h
  · exact h

theorem powerOnPassed_fst (h : s.DisplayLawful) (i : SlotId) : (s.powerOnPassed i).1.DisplayLawful := by
  unfold State.powerOnPassed
  dsimp only
  cases (s.slot i).power with
  | idle => exact h.joinQueue i _ _
  | waiting | auxRamp | mainRamp | settle | readyWait | on | drain | vacant | faulted => exact h

theorem powerOnRequest_fst (h : s.DisplayLawful) (payload : List Byte) :
    (powerOnRequest payload s).1.DisplayLawful := by
  unfold powerOnRequest
  split
  · split
    · exact h
    · dsimp only
      split
      · exact h.cancelHoldOff _
      · exact (h.cancelHoldOff _).powerOnPassed_fst _
  · exact h

theorem powerOffRequest_fst (h : s.DisplayLawful) (payload : List Byte) :
    (powerOffRequest payload s).1.DisplayLawful := by
  unfold powerOffRequest
  split
  · split
    · exact h
    · dsimp only
      split
      · exact h.cancelHoldOff _
      · exact (h.cancelHoldOff _).powerOffAction_fst _ _ _
  · exact h

theorem clearFaultRequest_fst (h : s.DisplayLawful) (payload : List Byte) :
    (clearFaultRequest payload s).1.DisplayLawful := by
  unfold clearFaultRequest
  split
  · split
    · exact h
    · split
      · exact h
      · exact h.upd _ _
  · exact h

theorem lockRequest_fst (h : s.DisplayLawful) (kind : OpKind) (payload : List Byte) :
    (lockRequest kind payload s).1.DisplayLawful := by
  unfold lockRequest
  split
  · split
    · exact h
    · split
      · exact h
      · exact (h.startOperation _ _ _).upd _ _
  · exact h

theorem setIndicatorRequest_fst (h : s.DisplayLawful) (payload : List Byte) :
    (setIndicatorRequest payload s).1.DisplayLawful := by
  unfold setIndicatorRequest
  split
  · split
    · exact h
    · split
      · exact h
      · exact h.upd _ _
  · exact h

theorem moveEntry (h : s.DisplayLawful) (i : SlotId) (priority : Nat) : (s.moveEntry i priority).DisplayLawful := by
  unfold State.moveEntry
  split
  · exact h
  · exact h.congr rfl rfl rfl

theorem setSlotRequest_fst (h : s.DisplayLawful) (payload : List Byte) :
    (setSlotRequest payload s).1.DisplayLawful := by
  unfold setSlotRequest
  split
  · split
    · exact h
    · dsimp only
      split
      · exact h
      · split
        · exact h
        · dsimp only
          split
          · exact (h.upd _ _).moveEntry _ _
          · exact h.upd _ _
  · exact h

theorem emptyEvents (h : s.DisplayLawful) (i : SlotId) : (s.emptyEvents i).DisplayLawful :=
  ((h.setPending (some i) 0).withEvents _).realert

theorem disable (h : s.DisplayLawful) (i : SlotId) : (s.disable i).DisplayLawful := by
  unfold State.disable
  dsimp only
  split
  · exact ((h.upd i _).emptyEvents i).endLock i _
  · exact (h.upd i _).emptyEvents i

theorem enable (h : s.DisplayLawful) (i : SlotId) : (s.enable i).DisplayLawful := by
  unfold State.enable
  split
  · exact h.moduleArrives i
  · exact h

theorem setHardwareRequest_fst (h : s.DisplayLawful) (payload : List Byte) :
    (setHardwareRequest payload s).1.DisplayLawful := by
  unfold setHardwareRequest
  split
  · split
    · exact h
    · split
      · exact h
      · dsimp only
        split
        · exact h
        · dsimp only
          split
          · exact (h.upd _ _).disable _
          · split
            · exact (h.upd _ _).enable _
            · exact h.upd _ _
  · exact h

theorem setSupplyRequest_fst (h : s.DisplayLawful) (payload : List Byte) :
    (setSupplyRequest payload s).1.DisplayLawful := by
  unfold setSupplyRequest
  split
  · split
    · dsimp only
      split
      · exact h
      · split
        · exact h
        · exact (h.withBudget _).recompute
    · exact h
  · exact h

theorem setBudgetRequest_fst (h : s.DisplayLawful) (payload : List Byte) :
    (setBudgetRequest payload s).1.DisplayLawful := by
  unfold setBudgetRequest
  split
  · split
    · exact h
    · dsimp only
      split
      · exact h
      · split
        · exact h
        · exact State.DisplayLawful.recompute (h.congr rfl rfl rfl)
  · exact h

theorem setProfileRequest_fst (h : s.DisplayLawful) (payload : List Byte) :
    (setProfileRequest payload s).1.DisplayLawful := by
  unfold setProfileRequest
  split
  · split
    · exact h.congr rfl rfl rfl
    · exact h
  · exact h

theorem setClassesRequest_fst (h : s.DisplayLawful) (payload : List Byte) :
    (setClassesRequest payload s).1.DisplayLawful := by
  unfold setClassesRequest
  split
  · dsimp only
    split
    · exact h.congr rfl rfl rfl
    · exact h
  · exact h

/-- New values wait for the next boundary, so a pattern keeps its light; they are in range (R136, R137). -/
theorem setPattern_waiting (h : s.DisplayLawful) (p : Pattern) {period onTime : Nat} (hrange : blinkRange period onTime) :
    (s.setPattern p { s.pattern p with waiting := some (period, onTime) }).DisplayLawful := by
  have hnew : ({ s.pattern p with waiting := some (period, onTime) } : BlinkPattern).Lawful := by
    obtain ⟨hold, hphase, -⟩ := h.pattern p
    refine ⟨hold, hphase, fun v hv => ?_⟩
    obtain rfl : (period, onTime) = v := Option.some.inj hv
    exact hrange
  cases p with
  | slow => exact h.of_lit_eq rfl rfl rfl hnew h.fast
  | fast => exact h.of_lit_eq rfl rfl rfl h.slow hnew

theorem setBlinkRequest_fst (h : s.DisplayLawful) (payload : List Byte) :
    (setBlinkRequest payload s).1.DisplayLawful := by
  unfold setBlinkRequest
  split
  · dsimp only
    split
    · rename_i hperiod honTime
      obtain ⟨⟨hlow, hhigh⟩, -⟩ := readRange_eq_some_iff.1 hperiod
      obtain ⟨⟨-, hon⟩, -⟩ := readRange_eq_some_iff.1 honTime
      exact h.setPattern_waiting _ ⟨hlow, hhigh, hon⟩
    · exact h
  · exact h

theorem gateRequest_fst (h : s.DisplayLawful) (payload : List Byte) : (gateRequest payload s).1.DisplayLawful := by
  unfold gateRequest
  split
  · split
    · exact h
    · split
      · exact h
      · dsimp only
        split
        · exact (h.withAdmission _).markPass
        · exact h.congr rfl rfl rfl
  · exact h

theorem freezeRequest_fst (h : s.DisplayLawful) (payload : List Byte) : (freezeRequest payload s).1.DisplayLawful := by
  unfold freezeRequest
  split
  · split
    · exact h
    · exact h.congr rfl rfl rfl
  · exact h

theorem restartRequest_fst (h : s.DisplayLawful) (payload : List Byte) :
    (restartRequest payload s).1.DisplayLawful := by
  unfold restartRequest
  split
  · split
    · exact h
    · exact h.congr rfl rfl rfl
  · exact h

/-- The execution of a request keeps the display if its body does: the reply and the offer touch no record (R162). -/
theorem execute (h : s.DisplayLawful) (tag kind : Byte) {payload : List Byte} {body : State → State × List Byte}
    (hbody : (body s).1.DisplayLawful) : (s.execute tag kind payload body).DisplayLawful := by
  obtain ⟨-, hdone⟩ | ⟨-, hnone⟩ := s.execute_cases tag kind payload body
  · exact hdone.symm ▸ (hbody.answer tag _).finish
  · exact hnone.symm ▸ h

/-! ### Every happening -/

/-- A happening that arises under a condition keeps the display if its effect does where the condition holds. -/
theorem happen (h : s.DisplayLawful) {arises : Bool} {effect : State}
    (heffect : arises = true → effect.DisplayLawful) :
    ∃ t, s.happen arises effect = .next t ∧ t.DisplayLawful := by
  obtain ⟨harises, hdone⟩ | ⟨-, hnone⟩ := s.happen_cases arises effect
  · exact ⟨_, hdone, (heffect harises).finish⟩
  · exact ⟨s, hnone, h⟩

theorem endFrame (h : s.DisplayLawful) : s.endFrame.DisplayLawful := by
  unfold State.endFrame
  split
  · exact h
  · split <;> exact h.congr rfl rfl rfl

theorem execBadKind_next (h : s.DisplayLawful) (tag kind : Byte) (payload : List Byte) :
    ∃ t, execBadKind tag kind payload s = .next t ∧ t.DisplayLawful := by
  unfold execBadKind
  split
  · exact ⟨_, rfl, h.execute tag kind h⟩
  · exact ⟨s, rfl, h⟩

/-- Every command answers a next state, and that state keeps the display. -/
theorem exec_next (h : s.DisplayLawful) (c : Instr) : ∃ t, exec c s = .next t ∧ t.DisplayLawful := by
  cases c with
  | identify tag payload => exact ⟨_, rfl, h.execute tag _ (h.identifyRequest_fst payload)⟩
  | grant tag payload => exact ⟨_, rfl, h.execute tag _ (h.grantRequest_fst payload)⟩
  | readLink tag payload => exact ⟨_, rfl, h.execute tag _ (h.readLinkRequest_fst payload)⟩
  | setNotices tag payload => exact ⟨_, rfl, h.execute tag _ (h.setNoticesRequest_fst payload)⟩
  | readSlot tag payload => exact ⟨_, rfl, h.execute tag _ (h.readSlotRequest_fst payload)⟩
  | readQueue tag payload => exact ⟨_, rfl, h.execute tag _ (h.readQueueRequest_fst payload)⟩
  | readBudget tag payload => exact ⟨_, rfl, h.execute tag _ (h.readBudgetRequest_fst payload)⟩
  | readEvents tag payload => exact ⟨_, rfl, h.execute tag _ (h.readEventsRequest_fst payload)⟩
  | ackEvents tag payload => exact ⟨_, rfl, h.execute tag _ (h.ackEventsRequest_fst payload)⟩
  | readProfile tag payload => exact ⟨_, rfl, h.execute tag _ (h.readProfileRequest_fst payload)⟩
  | powerOn tag payload => exact ⟨_, rfl, h.execute tag _ (h.powerOnRequest_fst payload)⟩
  | powerOff tag payload => exact ⟨_, rfl, h.execute tag _ (h.powerOffRequest_fst payload)⟩
  | clearFault tag payload => exact ⟨_, rfl, h.execute tag _ (h.clearFaultRequest_fst payload)⟩
  | lock tag payload => exact ⟨_, rfl, h.execute tag _ (h.lockRequest_fst .lock payload)⟩
  | unlock tag payload => exact ⟨_, rfl, h.execute tag _ (h.lockRequest_fst .unlock payload)⟩
  | setIndicator tag payload => exact ⟨_, rfl, h.execute tag _ (h.setIndicatorRequest_fst payload)⟩
  | setSlot tag payload => exact ⟨_, rfl, h.execute tag _ (h.setSlotRequest_fst payload)⟩
  | setHardware tag payload => exact ⟨_, rfl, h.execute tag _ (h.setHardwareRequest_fst payload)⟩
  | setSupply tag payload => exact ⟨_, rfl, h.execute tag _ (h.setSupplyRequest_fst payload)⟩
  | setBudget tag payload => exact ⟨_, rfl, h.execute tag _ (h.setBudgetRequest_fst payload)⟩
  | setProfile tag payload => exact ⟨_, rfl, h.execute tag _ (h.setProfileRequest_fst payload)⟩
  | setClasses tag payload => exact ⟨_, rfl, h.execute tag _ (h.setClassesRequest_fst payload)⟩
  | setBlink tag payload => exact ⟨_, rfl, h.execute tag _ (h.setBlinkRequest_fst payload)⟩
  | gate tag payload => exact ⟨_, rfl, h.execute tag _ (h.gateRequest_fst payload)⟩
  | freeze tag payload => exact ⟨_, rfl, h.execute tag _ (h.freezeRequest_fst payload)⟩
  | restart tag payload => exact ⟨_, rfl, h.execute tag _ (h.restartRequest_fst payload)⟩
  | badKind tag kind payload => exact h.execBadKind_next tag kind payload
  | byteReceived b => exact ⟨_, rfl, (h.withPort _).finish⟩
  | characterWithoutStopBit => exact ⟨_, rfl, (h.withPort _).finish⟩
  | gapAbort => exact h.happen fun _ => h.congr rfl rfl rfl
  | linkReset => exact ⟨_, rfl, h.congr rfl rfl rfl⟩
  | frameEnd => exact h.happen fun _ => h.endFrame
  | supplyGoodChange n good => exact h.happen fun _ => h.supplyChange n good
  | admissionPass => exact h.happen fun _ => h.pass
  | auxGoodRises i => exact h.happen fun _ => h.auxGoodRise i
  | mainGoodRises i => exact h.happen fun _ => h.mainGoodRise i
  | settleTimeEnds i => exact h.happen fun _ => h.endSettle i
  | readyRises i => exact h.happen fun _ => h.readyRise i
  | stageDueEnd i => exact h.happen fun _ => h.stageEnd i
  | stageDeadlineExpiry i => exact h.happen fun _ => h.deadlineExpiry i
  | readyFalls i => exact h.happen fun _ => h.readyFall i
  | drainGraceExpiry i => exact h.happen fun _ => h.endDrain i _
  | drainDueEnd i => exact h.happen fun _ => h.endDrain i _
  | faultLineRises i => exact ⟨_, rfl, (h.faultLineRise i).finish⟩
  | overcurrentDue i => exact h.happen fun _ => h.dueOvercurrent i
  | railGoodFalls i rail => exact h.happen fun _ => h.railFall i rail
  | railLostDue i rail => exact h.happen fun _ => h.dueRailLost i rail
  | insertion i class0 class1 => exact h.happen fun _ => h.insertion i class0 class1
  | removal i => exact h.happen fun _ => h.removal i
  | leverChange i closed => exact h.happen fun _ => h.leverChange i closed
  | buttonPress i => exact ⟨_, rfl, (h.buttonPress i).finish⟩
  | holdOffExpiry i => exact h.happen fun _ => h.windowExpires i
  | lockSenseChange i engaged => exact h.happen fun _ => h.lockSenseChange i engaged
  | lockDeadlineExpiry i => exact h.happen fun _ => h.endLock i _
  | lockDueEnd i => exact h.happen fun _ => h.dueLockEnd i
  | blinkPeriodBoundary p =>
    exact h.happen fun _ => h.changePattern p (BlinkPattern.boundary_lawful (h.pattern p))
  | blinkOnTimeEnd p =>
    exact h.happen fun hend => h.changePattern p (BlinkPattern.leaveOnTime_lawful (h.pattern p) hend)
  | powerOnReset rateA rateB => exact ⟨_, rfl, h.powerOnReset rateA rateB⟩
  | restartLineRise => exact ⟨_, rfl, ((h.withPart _).rideThrough _).finish⟩
  | requestedRestart => exact h.happen fun _ => h.requestedRestart

/-- The same, where the next state is given. -/
theorem of_exec (h : s.DisplayLawful) {c : Instr} {t : State} (hexec : exec c s = .next t) : t.DisplayLawful := by
  obtain ⟨u, hu, hlawful⟩ := h.exec_next c
  obtain rfl : u = t := by simpa [hu] using hexec
  exact hlawful

/-- A step is a command, a happening or a tick (log 1), and each keeps the display. -/
theorem of_step (h : s.DisplayLawful) {t : State} (hstep : step s = .next t) : t.DisplayLawful := by
  obtain ⟨c, rest, -, hexec⟩ | ⟨-, u, hu, hmove⟩ := step_cases hstep
  · exact of_exec (s := { s with pending := rest }) (h.congr rfl rfl rfl) hexec
  · have hlawful : u.DisplayLawful := by
      obtain rfl | rfl := hu
      · exact h
      · exact h.congr rfl rfl rfl
    obtain ⟨c, -, hexec⟩ | ⟨-, rfl⟩ := hmove
    · exact hlawful.of_exec hexec
    · exact hlawful.tick

end

end State.DisplayLawful

/-! ### The tables of R44, R132 and R133 -/

theorem PowerState.powered_iff (st : PowerState) :
    st.powered = true ↔ st ∈ [.auxRamp, .mainRamp, .settle, .readyWait, .on, .drain] := by
  cases st <;> decide

theorem PowerState.mainEn_iff (st : PowerState) :
    st.mainEn = true ↔ st ∈ [.mainRamp, .settle, .readyWait, .on, .drain] := by
  cases st <;> decide

theorem PowerState.stop_eq_false_iff (st : PowerState) : st.stop = false ↔ st ∈ [.readyWait, .on] := by
  cases st <;> decide

theorem PowerState.autoMode_eq (st : PowerState) :
    st.autoMode =
      if st ∈ [.vacant, .idle, .faulted] then .off
      else if st = .waiting then .blinkSlow
      else if st = .on then .on
      else .blinkFast := by
  cases st <;> decide

theorem Slot.powerMode_eq (sl : Slot) :
    sl.powerMode = if sl.lamps.powerAuto = false then sl.lamps.powerHost else sl.power.autoMode := by
  unfold Slot.powerMode
  cases sl.lamps.powerAuto <;> rfl

/-- Settles O56: the laws of the display are kept by every step, and the tables are read off the slot's state and the two
modes. -/
theorem displayIsKept : Obligations.DisplayIsKept := by
  refine ⟨fun s s' hout hslow hfast hstep => ?_, fun sl slowLit fastLit => ?_⟩
  · exact State.DisplayLawful.of_step ⟨hout, hslow, hfast⟩ hstep
  · intro o lit
    have hlit : ∀ m : IndMode, m.lit slowLit fastLit = lit m := by
      intro m
      cases m <;> rfl
    refine ⟨sl.power.powered_iff, sl.power.mainEn_iff, sl.power.stop_eq_false_iff, ?_, rfl, hlit _, hlit _⟩
    rw [← PowerState.autoMode_eq]
    exact sl.powerMode_eq

end Sys2Proof.Machine
end

section
/-! PROOFS. Indicators (chapter 7), the requests: SET-INDICATOR (R135), SET-BLINK (R137), and the class draws of
SET-CLASSES (R20). -/
namespace Sys2Proof.Machine

/-! ### The four settings of SET-INDICATOR (R135, R169) -/

theorem readIndMode_code (m : IndMode) : readIndMode (BitVec.ofNat 8 m.code) = some m := by
  cases m <;> rfl

theorem readIndMode_eq_none {b : Byte} (h : 3 < b.toNat) : readIndMode b = none := by
  unfold readIndMode
  split
  · omega
  · omega
  · omega
  · omega
  · rfl

/-- The settings read are the four fields read one by one. -/
theorem readLamps_eq_some_iff {ph pa ah aa : Byte} {l : Lamps} :
    readLamps ph pa ah aa = some l ↔
      readIndMode ph = some l.powerHost ∧ readFlag pa = some l.powerAuto ∧
      readIndMode ah = some l.attnHost ∧ readFlag aa = some l.attnAuto := by
  obtain ⟨powerHost, powerAuto, attnHost, attnAuto⟩ := l
  simp [readLamps, Option.bind_eq_some_iff, -Bool.exists_bool]

/-- One field outside its values and no settings are read (R135). -/
theorem readLamps_eq_none {ph pa ah aa : Byte}
    (hbad : 3 < ph.toNat ∨ 1 < pa.toNat ∨ 3 < ah.toNat ∨ 1 < aa.toNat) : readLamps ph pa ah aa = none := by
  refine Option.eq_none_iff_forall_ne_some.2 fun l hl => ?_
  obtain ⟨hph, hpa, hah, haa⟩ := readLamps_eq_some_iff.1 hl
  obtain hbad | hbad | hbad | hbad := hbad
  · simp [readIndMode_eq_none hbad] at hph
  · simp [readFlag_eq_none hbad] at hpa
  · simp [readIndMode_eq_none hbad] at hah
  · simp [readFlag_eq_none hbad] at haa

theorem readLamps_code (ph ah : IndMode) (pa aa : Bool) :
    readLamps (BitVec.ofNat 8 ph.code) (flagByte pa) (BitVec.ofNat 8 ah.code) (flagByte aa) = some ⟨ph, pa, ah, aa⟩ :=
  readLamps_eq_some_iff.2 ⟨readIndMode_code ph, readFlag_flagByte pa, readIndMode_code ah, readFlag_flagByte aa⟩

/-- A record whose outputs have been driven reports its own settings and effective modes (R135). -/
theorem lampBytes_driven (sl : Slot) (a b : Bool) :
    lampBytes (sl.driven a b) =
      [BitVec.ofNat 8 sl.lamps.powerHost.code, flagByte sl.lamps.powerAuto, BitVec.ofNat 8 sl.lamps.attnHost.code,
        flagByte sl.lamps.attnAuto, BitVec.ofNat 8 sl.powerMode.code, BitVec.ofNat 8 sl.attnMode.code] := by
  simp only [lampBytes, flag_eq_flagByte]
  rfl

/-! ### The body of SET-INDICATOR (R135) -/

theorem setIndicatorRequest_badSlot {n : Byte} (ph pa ah aa : Byte) (s : State) (h : n.toNat = 0 ∨ 24 < n.toNat) :
    setIndicatorRequest [n, ph, pa, ah, aa] s = (s, [0x20]) := by
  simp only [setIndicatorRequest, readSlotField_eq_none h]
  rfl

theorem setIndicatorRequest_badValue {ph pa ah aa : Byte} (i : SlotId) (s : State)
    (hbad : 3 < ph.toNat ∨ 1 < pa.toNat ∨ 3 < ah.toNat ∨ 1 < aa.toNat) :
    setIndicatorRequest [slotByte i, ph, pa, ah, aa] s = (s, [0x21]) := by
  simp only [setIndicatorRequest, readSlotField_slotByte, readLamps_eq_none hbad]
  rfl

/-- A slot record with other indicator settings (R131). -/
def Slot.withLamps (sl : Slot) (l : Lamps) : Slot := { sl with lamps := l }

/-- Settings that are read are written together, and the reply shows the record that holds them (R135). -/
theorem setIndicatorRequest_of_some {ph pa ah aa : Byte} (s : State) (i : SlotId) {l : Lamps}
    (hread : readLamps ph pa ah aa = some l) :
    setIndicatorRequest [slotByte i, ph, pa, ah, aa] s =
      (s.becomes i ((s.slot i).withLamps l) [],
        [0x00, BitVec.ofNat 8 l.powerHost.code, flagByte l.powerAuto, BitVec.ofNat 8 l.attnHost.code,
          flagByte l.attnAuto, BitVec.ofNat 8 ((s.slot i).withLamps l).powerMode.code,
          BitVec.ofNat 8 ((s.slot i).withLamps l).attnMode.code]) := by
  simp only [setIndicatorRequest, readSlotField_slotByte, hread, State.upd_eq_becomes, State.slot_becomes_same,
    lampBytes_driven]
  rfl

/-- Settles O19: four settings in range are written and reported; a slot number or a setting out of range changes
nothing. -/
theorem setIndicator : Obligations.SetIndicator := by
  refine ⟨?_, fun s tag ph pa ah aa i howes hbad => ?_, fun s tag n ph pa ah aa howes hn => ?_⟩
  · intro s tag i ph ah pa aa payload new howes
    exact ⟨_, rfl, howes.execute_answered (setIndicatorRequest_of_some s i (readLamps_code ph ah pa aa)) rfl rfl⟩
  · exact ⟨_, rfl, howes.execute_answered (setIndicatorRequest_badValue i s hbad) rfl rfl⟩
  · exact ⟨_, rfl, howes.execute_answered (setIndicatorRequest_badSlot ph pa ah aa s hn) rfl rfl⟩

/-! ### The body of SET-CLASSES (R20) -/

theorem setClassesRequest_of_le {a1 a0 b1 b0 c1 c0 d1 d0 : Byte} (s : State)
    (h : (a1 ++ a0 : Word16).toNat ≤ 20000 ∧ (b1 ++ b0 : Word16).toNat ≤ 20000 ∧ (c1 ++ c0 : Word16).toNat ≤ 20000 ∧
      (d1 ++ d0 : Word16).toNat ≤ 20000) :
    setClassesRequest [a1, a0, b1, b0, c1, c0, d1, d0] s =
      ({ s with budget.classDraws := #v[(a1 ++ a0 : Word16).toNat, (b1 ++ b0 : Word16).toNat, (c1 ++ c0 : Word16).toNat,
          (d1 ++ d0 : Word16).toNat] }, [0x00]) := by
  simp only [setClassesRequest, be16_eq_toNat_append]
  exact if_pos (by simpa using h)

theorem setClassesRequest_badValue {a1 a0 b1 b0 c1 c0 d1 d0 : Byte} (s : State)
    (h : ¬((a1 ++ a0 : Word16).toNat ≤ 20000 ∧ (b1 ++ b0 : Word16).toNat ≤ 20000 ∧ (c1 ++ c0 : Word16).toNat ≤ 20000 ∧
      (d1 ++ d0 : Word16).toNat ≤ 20000)) :
    setClassesRequest [a1, a0, b1, b0, c1, c0, d1, d0] s = (s, [0x21]) := by
  simp only [setClassesRequest, be16_eq_toNat_append]
  exact if_neg fun hall => h (by simpa using hall)

/-! ### The body of SET-BLINK (R137) -/

theorem readPattern_eq_none {pt : Byte} (h : 1 < pt.toNat) : readPattern pt = none := by
  simp [readPattern, readFlag_eq_none h]

theorem readPattern_flagByte (fast : Bool) : readPattern (flagByte fast) = some (if fast then .fast else .slow) := by
  simp [readPattern, readFlag_flagByte]

/-- The number that two bytes carry is carried back as these bytes (R169). -/
theorem u16_toNat_append (h l : Byte) : u16 (h ++ l : Word16).toNat = [h, l] := by
  have hhigh : (h.toNat * 256 + l.toNat) / 256 = h.toNat := by omega
  have hlow : BitVec.ofNat 8 (h.toNat * 256 + l.toNat) = l := by
    apply BitVec.eq_of_toNat_eq
    rw [BitVec.toNat_ofNat]
    omega
  rw [toNat_append_byte, u16, hhigh, hlow, BitVec.ofNat_toNat, BitVec.setWidth_eq]

theorem setBlinkRequest_badValue {pt p1 p0 o1 o0 : Byte} (s : State)
    (hbad : 1 < pt.toNat ∨ (p1 ++ p0 : Word16).toNat < 100 ∨ 4000 < (p1 ++ p0 : Word16).toNat ∨
      (p1 ++ p0 : Word16).toNat < (o1 ++ o0 : Word16).toNat) :
    setBlinkRequest [pt, p1, p0, o1, o0] s = (s, [0x21]) := by
  simp only [setBlinkRequest, be16_eq_toNat_append]
  split
  · rename_i hpattern hperiod honTime
    obtain ⟨⟨hlow, hhigh⟩, -⟩ := readRange_eq_some_iff.1 hperiod
    obtain ⟨⟨-, hon⟩, -⟩ := readRange_eq_some_iff.1 honTime
    obtain hpt | hrange := hbad
    · simp [readPattern_eq_none hpt] at hpattern
    · omega
  · rfl

/-- The pattern that waits for new values, with the values in force, and the new ones as the bytes they came in. -/
theorem setBlinkRequest_of_range {p1 p0 o1 o0 : Byte} (s : State) {pt : Byte} {p : Pattern}
    (hpattern : readPattern pt = some p) (hlow : 100 ≤ (p1 ++ p0 : Word16).toNat)
    (hhigh : (p1 ++ p0 : Word16).toNat ≤ 4000) (hon : (o1 ++ o0 : Word16).toNat ≤ (p1 ++ p0 : Word16).toNat) :
    setBlinkRequest [pt, p1, p0, o1, o0] s =
      (s.setPattern p { s.pattern p with waiting := some ((p1 ++ p0 : Word16).toNat, (o1 ++ o0 : Word16).toNat) },
        0x00 :: (u16 (s.pattern p).period ++ u16 (s.pattern p).onTime ++ [1, p1, p0, o1, o0])) := by
  have hperiod := readRange_eq_some_iff.2 ⟨⟨hlow, hhigh⟩, rfl⟩
  have honTime := readRange_eq_some_iff.2 ⟨⟨Nat.zero_le _, hon⟩, rfl⟩
  simp only [setBlinkRequest, be16_eq_toNat_append, hpattern, hperiod, honTime, waitingBytes, u16_toNat_append]
  rfl

/-- Settles O24: draws and blink values in range are written, and one out of range changes nothing. -/
theorem setClassesAndBlink : Obligations.SetClassesAndBlink := by
  refine ⟨?_, fun s tag pt p1 p0 o1 o0 howes hbad => ?_, ?_⟩
  · intro s tag a1 a0 b1 b0 c1 c0 d1 d0 payload a b c d howes
    refine ⟨fun hle => ?_, fun hover => ?_⟩
    · exact ⟨_, rfl, howes.execute_answered (setClassesRequest_of_le s hle) rfl rfl⟩
    · exact ⟨_, rfl, howes.execute_answered (setClassesRequest_badValue s hover) rfl rfl⟩
  · exact ⟨_, rfl, howes.execute_answered (setBlinkRequest_badValue s hbad) rfl rfl⟩
  · intro s tag p1 p0 o1 o0 fast payload period onTime old new howes hlow hhigh hon
    have hbody := setBlinkRequest_of_range s (readPattern_flagByte fast) hlow hhigh hon
    cases fast with
    | true => exact ⟨_, rfl, howes.execute_answered hbody rfl rfl⟩
    | false => exact ⟨_, rfl, howes.execute_answered hbody rfl rfl⟩

end Sys2Proof.Machine
end

section
/-! PROOFS. Events and notices (chapter 8): what an occurrence does (R141, R144, R145, R150), and the requests that read
and clear pending sets, READ-EVENTS and ACK-EVENTS (R146, R147). -/
namespace Sys2Proof.Machine

/-! ### Sets of event kinds (R140, R142, R156) -/

theorem EventKind.bit_eq_twoPow (k : EventKind) : k.bit = BitVec.twoPow 16 (k.code - 1) :=
  (BitVec.twoPow_eq 16 _).symm

theorem EventKind.bit_eq_ofNat (k : EventKind) : k.bit = BitVec.ofNat 16 (2 ^ (k.code - 1)) := by
  cases k <;> rfl

theorem EventKind.bit_ne_zero (k : EventKind) : k.bit ≠ 0 := by
  cases k <;> decide

/-- A kind is in a set exactly when its bit is set. -/
theorem hasKind_eq_getLsbD (set : Word16) (k : EventKind) : hasKind set k = set.getLsbD (k.code - 1) := by
  rw [hasKind, k.bit_eq_twoPow, BitVec.and_twoPow, ← k.bit_eq_twoPow]
  cases set.getLsbD (k.code - 1) with
  | true => exact bne_iff_ne.2 k.bit_ne_zero
  | false => rfl

/-- Two bytes make up 0 exactly when both are 0. -/
theorem append_byte_eq_zero_iff {h l : Byte} : (h ++ l : Word16) = 0 ↔ h = 0 ∧ l = 0 := by
  simp only [← BitVec.toNat_inj, toNat_append_byte, BitVec.toNat_zero, BitVec.ofNat_eq_ofNat]
  omega

/-- The high byte of a set of slot kinds is 0 (R140). -/
theorem within_slotKinds_iff {k1 k0 : Byte} : within (kindSet k1 k0) slotKinds = true ↔ k1 = 0 := by
  have hgroup : ~~~slotKinds = BitVec.allOnes 8 ++ 0#8 := rfl
  rw [within, kindSet, hgroup, BitVec.and_append, beq_iff_eq, append_byte_eq_zero_iff, BitVec.and_allOnes,
    BitVec.and_zero]
  exact and_iff_left rfl

theorem and_high_five_bits_eq_zero_iff : ∀ b : Byte, b &&& 0xF8 = 0 ↔ b.toNat < 8 := by decide

/-- A set of slot-0 kinds has a low byte of 0 and a high byte of its three low bits (R140). -/
theorem within_zeroKinds_iff {k1 k0 : Byte} : within (kindSet k1 k0) zeroKinds = true ↔ k0 = 0 ∧ k1.toNat < 8 := by
  have hgroup : ~~~zeroKinds = (0xF8 : Byte) ++ BitVec.allOnes 8 := rfl
  rw [within, kindSet, hgroup, BitVec.and_append, beq_iff_eq, append_byte_eq_zero_iff, BitVec.and_allOnes,
    and_high_five_bits_eq_zero_iff]
  exact and_comm

/-! ### The pending sets and ALERT (R142, R150) -/

theorem State.pendingOf_setPending_same (s : State) (who : Option SlotId) (set : Word16) :
    (s.setPending who set).pendingOf who = set := by
  cases who with
  | none => rfl
  | some i => simp [State.setPending, State.pendingOf]

/-- ALERT is called for exactly when some pending set, that of slot 0 or of a slot, holds a kind in the alert mask. -/
theorem State.alerting_iff (s : State) :
    s.alerting = true ↔ ∃ w, s.pendingOf w &&& s.events.alertMask ≠ 0 := by
  simp [State.alerting, State.pendingOf, Option.exists, allSlots]

/-! ### An occurrence (R141, R144, R145) -/

/-- The event unit after an occurrence: it has taken the occurrence, and ALERT is the alert condition. -/
theorem State.occur_events (s : State) (who : Option SlotId) (k : EventKind) :
    (s.occur who k).events =
      { s.events.taking s.part.uptime (who, k) with alert := (s.occur who k).alerting } := by
  cases who with
  | none => rw [State.occur_none_eq_posting]; rfl
  | some i =>
    rw [Events.taking_some, ← State.occur_alert]
    cases hm : hasKind s.events.noticeMask k with
    | true => simp only [State.occur, State.setPending, State.upd_events, hm, if_true]; rfl
    | false => simp only [State.occur, State.setPending, State.upd_events, hm, Bool.false_eq_true, if_false]; rfl

/-- The kind enters the pending set of the slot that the occurrence is on. -/
theorem State.pendingOf_occur_same (s : State) (who : Option SlotId) (k : EventKind) :
    (s.occur who k).pendingOf who = s.pendingOf who ||| k.bit := by
  cases who with
  | none => simp only [State.pendingOf, State.occur_events]; rfl
  | some i => simp [State.pendingOf]

/-- Every other pending set stays as it is. -/
theorem State.pendingOf_occur_ne (s : State) {who w : Option SlotId} (k : EventKind) (h : w ≠ who) :
    (s.occur who k).pendingOf w = s.pendingOf w := by
  cases w with
  | none => simp only [State.pendingOf, State.occur_events]; exact if_neg h.symm
  | some i => simp only [State.pendingOf, State.slot_occur_ne s k h.symm]

/-- An occurrence asserts ALERT exactly when some pending set then holds a kind in the alert mask (R150). -/
theorem State.occur_alert_iff (s : State) (who : Option SlotId) (k : EventKind) :
    (s.occur who k).events.alert = true ↔ ∃ w, (s.occur who k).pendingOf w &&& s.events.alertMask ≠ 0 := by
  rw [State.occur_alert, State.alerting_iff, State.occur_alertMask]

/-- A posting leaves ALERT alone. -/
theorem Events.post_alert (e : Events) (w : Option SlotId) (k : EventKind) (now : Word32) :
    (e.post w k now).alert = e.alert := by
  obtain ⟨-, h⟩ | ⟨-, -, h⟩ | ⟨-, -, h⟩ := e.post_cases w k now <;> simp [h, Events.lose]

/-- But for the pending set of slot 0 and ALERT, an occurrence does to the event unit what a posting does, and that only
if its kind is in the notice mask (R144). -/
theorem State.occur_events_apart (s : State) (who : Option SlotId) (k : EventKind) :
    { (s.occur who k).events with pendingZero := s.events.pendingZero, alert := s.events.alert } =
      if hasKind s.events.noticeMask k then s.events.post who k s.part.uptime else s.events := by
  rw [State.occur_events]
  unfold Events.taking
  dsimp only
  split
  · rw [← s.events.post_alert who k s.part.uptime, ← s.events.post_pendingZero who k s.part.uptime]
  · rfl

/-- An occurrence changes the slots, the event unit and the port, and nothing else. -/
theorem State.occur_with_restored (s : State) (who : Option SlotId) (k : EventKind) :
    { s.occur who k with slots := s.slots, events := s.events, port := s.port } = s := by
  obtain ⟨hpart, hbudget, hadmission, hprofiles, hholdOff, hslow, hfast, hpending, hwires, hchoices⟩ :=
    s.occur_frame who k
  dsimp only
  rw [hpart, hbudget, hadmission, hprofiles, hholdOff, hslow, hfast, hpending, hwires, hchoices]

/-- Settles O54: the pending sets, ALERT, the posting, the offer mark and the frame, each by its own rule; a kind's place
in the notice mask is its bit. -/
theorem occurrences : Obligations.Occurrences := by
  intro s who k u matching masked
  rw [← hasKind_eq_getLsbD, ← EventKind.bit_eq_ofNat]
  refine ⟨s.pendingOf_occur_same who k, fun w hw => s.pendingOf_occur_ne k hw, s.occur_alert_iff who k,
    s.occur_events_apart who k, ?_, s.occur_with_restored who k⟩
  refine (s.occur_port who k).trans ?_
  cases hasKind s.events.noticeMask k with
  | true => rw [Bool.or_true]; rfl
  | false => rw [Bool.or_false]; rfl

/-! ### READ-EVENTS (R147) -/

theorem stampCode_eq_getD (t : Option Word32) : stampCode t = (t.map BitVec.toNat).getD 0 := by
  cases t <;> rfl

/-- The form for all reads every pending set and the overflow fields, and ends the overflow episode. -/
theorem readEventsRequest_all (s : State) :
    readEventsRequest [255] s =
      ({ s with events := s.events.endEpisode },
        0x00 :: u16 s.events.pendingZero.toNat ++ (List.finRange 24).flatMap (fun i => u16 (s.slot i).pendingSet.toNat) ++
          [flagByte s.events.overflow, BitVec.ofNat 8 s.events.lostCount] ++
          u32 ((s.events.overflowStamp.map BitVec.toNat).getD 0)) := by
  rw [← stampCode_eq_getD, ← List.singleton_append (x := flagByte _), ← flag_eq_flagByte,
    ← List.append_assoc _ (flag _)]
  rfl

theorem readEventsRequest_zero (s : State) :
    readEventsRequest [0] s = (s, [0x00, 0] ++ u16 s.events.pendingZero.toNat) := rfl

/-- Below the form for all and above slot 0, the slot field decides. -/
theorem readEventsRequest_of_slotField {n : Byte} (s : State) (h0 : n.toNat ≠ 0) (h255 : n.toNat ≠ 255) :
    readEventsRequest [n] s =
      ((readSlotField n).elim (s, [0x20]) fun i => (s, [0x00, slotByte i] ++ u16 (s.slot i).pendingSet.toNat)) := by
  simp only [readEventsRequest, if_neg h0, if_neg h255]
  cases readSlotField n <;> rfl

theorem readEventsRequest_slotByte (s : State) (i : SlotId) :
    readEventsRequest [slotByte i] s = (s, [0x00, slotByte i] ++ u16 (s.slot i).pendingSet.toNat) := by
  have hnumber := toNat_slotByte i
  rw [readEventsRequest_of_slotField s (by omega) (by omega), readSlotField_slotByte, Option.elim_some]

theorem readEventsRequest_badSlot {n : Byte} (s : State) (h24 : 24 < n.toNat) (h255 : n.toNat < 255) :
    readEventsRequest [n] s = (s, [0x20]) := by
  rw [readEventsRequest_of_slotField s (by omega) (by omega), readSlotField_eq_none (.inr h24), Option.elim_none]

/-! ### ACK-EVENTS (R146) -/

theorem readSubjectField_slotByte (i : SlotId) : readSubjectField (slotByte i) = some (some i) := by
  have hnumber := toNat_slotByte i
  rw [readSubjectField, if_neg (by omega), readSlotField_slotByte, Option.map_some]

theorem readSubjectField_eq_none {n : Byte} (h : 24 < n.toNat) : readSubjectField n = none := by
  rw [readSubjectField, if_neg (by omega), readSlotField_eq_none (.inr h), Option.map_none]

theorem State.pendingOf_acknowledge_same (s : State) (who : Option SlotId) (kinds : Word16) :
    (s.acknowledge who kinds).pendingOf who = s.pendingOf who &&& ~~~kinds := by
  refine Eq.trans ?_ (s.pendingOf_setPending_same who _)
  cases who with
  | none => rfl
  | some i => rfl

theorem ackEventsRequest_badSlot {n : Byte} (k1 k0 : Byte) (s : State) (h : 24 < n.toNat) :
    ackEventsRequest [n, k1, k0] s = (s, [0x20]) := by
  simp only [ackEventsRequest, readSubjectField_eq_none h]
  rfl

/-- Kinds of the group are acknowledged, and the reply carries the pending set that is left. -/
theorem ackEventsRequest_within {n k1 k0 : Byte} {who : Option SlotId} (s : State)
    (hwho : readSubjectField n = some who) (hgroup : within (kindSet k1 k0) (groupOf who) = true) :
    ackEventsRequest [n, k1, k0] s =
      (s.acknowledge who (k1 ++ k0), 0x00 :: u16 (s.pendingOf who &&& ~~~(k1 ++ k0)).toNat) := by
  rw [← State.pendingOf_acknowledge_same]
  simp only [ackEventsRequest, hwho, hgroup, if_true]
  rfl

theorem ackEventsRequest_badValue {n k1 k0 : Byte} {who : Option SlotId} (s : State)
    (hwho : readSubjectField n = some who) (hgroup : ¬within (kindSet k1 k0) (groupOf who) = true) :
    ackEventsRequest [n, k1, k0] s = (s, [0x21]) := by
  simp only [ackEventsRequest, hwho, hgroup]
  rfl

/-- Settles O11: READ-EVENTS by its field, then ACK-EVENTS on a slot, on slot 0 and on no slot, each by whether the kinds
named are of the group. -/
theorem readAndAckEvents : Obligations.ReadAndAckEvents := by
  refine ⟨fun s tag howes => ?_, fun s tag howes => ?_, fun s tag i howes => ?_, fun s tag n howes h24 h255 => ?_,
    fun s tag k1 k0 i howes => ⟨fun hk => ?_, fun hk => ?_⟩, fun s tag k1 k0 howes => ⟨fun hk => ?_, fun hk => ?_⟩,
    fun s tag n k1 k0 howes hn => ?_⟩
  · exact ⟨_, rfl, howes.execute_answered (readEventsRequest_all s) rfl rfl⟩
  · exact ⟨_, rfl, howes.execute_answered (readEventsRequest_zero s) rfl rfl⟩
  · exact ⟨_, rfl, howes.execute_answered (readEventsRequest_slotByte s i) rfl rfl⟩
  · exact ⟨_, rfl, howes.execute_answered (readEventsRequest_badSlot s h24 h255) rfl rfl⟩
  · have hbody := ackEventsRequest_within (k0 := k0) s (readSubjectField_slotByte i) (within_slotKinds_iff.2 hk)
    exact ⟨_, rfl, howes.execute_answered hbody rfl rfl⟩
  · have hbody := ackEventsRequest_badValue (k0 := k0) s (readSubjectField_slotByte i) (mt within_slotKinds_iff.1 hk)
    exact ⟨_, rfl, howes.execute_answered hbody rfl rfl⟩
  · have hbody := ackEventsRequest_within (n := 0) (who := none) s rfl (within_zeroKinds_iff.2 hk)
    exact ⟨_, rfl, howes.execute_answered hbody rfl rfl⟩
  · have hoff : ¬(k0 = 0 ∧ k1.toNat < 8) := not_and_or.2 (hk.imp_right Nat.not_lt.2)
    have hbody := ackEventsRequest_badValue (n := 0) (who := none) s rfl (mt within_zeroKinds_iff.1 hoff)
    exact ⟨_, rfl, howes.execute_answered hbody rfl rfl⟩
  · exact ⟨_, rfl, howes.execute_answered (ackEventsRequest_badSlot k1 k0 s hn) rfl rfl⟩

end Sys2Proof.Machine
end

section
/-! PROOFS. The message port (chapter 9), its own requests and its frames: GRANT and READ-LINK (R151, R167), the
judgement of a complete frame (R159, R160), the check and the layout of frames, and a whole frame received (R156,
R157). -/
namespace Sys2Proof.Machine

/-! ### GRANT and READ-LINK (R151, R167) -/

theorem grantRequest_single (a : Byte) (s : State) :
    grantRequest [a] s =
      ({ s with port.credit := min 64 (s.port.credit + a.toNat) },
        [0x00, BitVec.ofNat 8 (min 64 (s.port.credit + a.toNat))]) := rfl

/-- What READ-LINK reports of the port: the counters in the order of R166, and the rate code. -/
def Port.linkReport (p : Port) : List Byte :=
  [0x00] ++ u16 p.framesAccepted ++ u16 p.checkFailures ++ u16 p.gapAborts ++ u16 p.lengthErrors ++
    u16 p.droppedRejects ++ [BitVec.ofNat 8 p.linkRate]

/-- The counters are reported whether or not they are cleared. -/
theorem readLinkRequest_flagByte (clear : Bool) (s : State) :
    readLinkRequest [flagByte clear] s =
      (if clear then { s with port := s.port.clearCounters } else s, s.port.linkReport) := by
  simp only [readLinkRequest, readFlag_flagByte]
  rfl

theorem readLinkRequest_badValue {b : Byte} (s : State) (h : 1 < b.toNat) : readLinkRequest [b] s = (s, [0x21]) := by
  simp only [readLinkRequest, readFlag_eq_none h]
  rfl

/-- Settles O7: the body of each request, READ-LINK's by its flag. -/
theorem grantAndReadLink : Obligations.GrantAndReadLink := by
  refine ⟨fun s tag a howes => ?_, fun s tag b howes => ⟨?_, ?_, fun hb => ?_⟩⟩
  · exact ⟨_, rfl, howes.execute_answered (grantRequest_single a s) rfl rfl⟩
  · rintro rfl
    exact ⟨_, rfl, howes.execute_answered (readLinkRequest_flagByte false s) rfl rfl⟩
  · rintro rfl
    exact ⟨_, rfl, howes.execute_answered (readLinkRequest_flagByte true s) rfl rfl⟩
  · exact ⟨_, rfl, howes.execute_answered (readLinkRequest_badValue s hb) rfl rfl⟩

/-! ### The judgement of a complete frame (R159, R160) -/

/-- The held places are the rejects that wait. -/
theorem Port.produceReject_eq (p : Port) (status : Status) (tag : Byte) :
    p.produceReject status tag =
      if (p.ready.filter Ready.isReject).length < 2 then
        { p with ready := p.ready ++ [.reject status tag], offerDue := true }
      else { p with droppedRejects := min 65535 (p.droppedRejects + 1) } := by
  rw [Port.produceReject, Port.rejectsHeld, List.countP_eq_length_filter]
  rfl

theorem any_tag_iff {l : List Request} {tag : Byte} :
    (l.any fun r => decide (r.tag = tag)) = true ↔ tag ∈ l.map (·.tag) := by
  simp

/-- A frame with its own check, under a tag that is neither 0 nor held, joins a request queue that has a place. -/
theorem Port.judgeFrame_accepts {p : Port} {len tag kind : Byte} {payload : List Byte} {check : Word16}
    (hcheck : check = frameCheck len tag kind payload) (htag : tag ≠ 0) (hfresh : tag ∉ p.requests.map (·.tag))
    (hroom : p.requests.length < 8) :
    p.judgeFrame len tag kind payload check = p.acceptFrame tag kind payload := by
  rw [Port.judgeFrame, if_neg (not_not_intro hcheck.symm), if_neg htag, if_neg (mt any_tag_iff.1 hfresh),
    if_neg (Nat.not_le.2 hroom)]

/-- The second check byte completes the frame, which is judged at once (R157, R159). -/
theorem Port.receive_checkLow {p : Port} {len tag kind high : Byte} {payload : List Byte}
    (h : p.receiver = .checkLow len tag kind payload high) (low : Byte) :
    p.receive low =
      ({ p with gap := 0, rxHeld := false, receiver := .hunt } : Port).judgeFrame len tag kind payload
        (high ++ low) := by
  simp only [Port.receive, h]

theorem exec_byteReceived (b : Byte) (s : State) :
    exec (.byteReceived b) s = .next ({ s with port := s.port.receive b } : State).finish := rfl

/-- Settles O27: the cases of the judgement, a held tag and the held reject places read off the port. -/
theorem framesAreJudged : Obligations.FramesAreJudged := by
  intro s len tag kind high low payload hreceiver p rejected after
  rw [exec_byteReceived, Port.receive_checkLow hreceiver]
  simp only [Port.judgeFrame, any_tag_iff, Port.produceReject_eq]
  rfl

/-! ### The check (R156) -/

/-- One bit enters the check: the generator is taken away exactly when the bit differs from the top of the register. -/
def crcStep (r : Word16) (bit : Bool) : Word16 := if r.getLsbD 15 = bit then r <<< 1 else (r <<< 1) ^^^ 0x1021

/-- A word xored into the register ahead of one bit of the check: its top bit enters, and the rest moves up. -/
theorem crcBit_xor (r x : Word16) : crcBit (r ^^^ x) = crcStep r x.msb ^^^ (x <<< 1) := by
  have hshift : (r ^^^ x) <<< 1 = r <<< 1 ^^^ x <<< 1 := BitVec.shiftLeft_xor_distrib r x 1
  rw [crcBit, crcStep, hshift, BitVec.msb_xor, show r.getLsbD 15 = r.msb from rfl]
  by_cases h : r.msb = x.msb
  · simp [h]
  · have hxor : (r.msb ^^ x.msb) = true := by simpa using h
    rw [if_pos hxor, if_neg h, BitVec.xor_assoc, BitVec.xor_assoc, BitVec.xor_comm (x <<< 1)]

/-- The bits of a word, most significant first, enter one by one. -/
theorem iterate_crcBit_xor (r x : Word16) (n : Nat) :
    crcBit^[n] (r ^^^ x) = (((List.range n).map x.getMsbD).foldl crcStep r) ^^^ (x <<< n) := by
  induction n with
  | zero => simp
  | succ n ih =>
    rw [Function.iterate_succ_apply', ih, crcBit_xor, BitVec.msb_shiftLeft, ← BitVec.shiftLeft_add, List.range_succ,
      List.map_append, List.foldl_append]
    rfl

/-- The bits of a byte, in the order in which they enter the check. -/
def byteBits (b : Byte) : List Bool := [7, 6, 5, 4, 3, 2, 1, 0].map fun n => b.getLsbD n

/-- The byte in the upper half of a word has left it after eight bits. -/
theorem crcByte_eq_foldl (r : Word16) (b : Byte) : crcByte r b = (byteBits b).foldl crcStep r := by
  have hbits : (List.range 8).map (b ++ (0 : Byte) : Word16).getMsbD = byteBits b := by
    refine Eq.trans (List.map_congr_left fun k hk => ?_) (rfl : (List.range 8).map b.getMsbD = byteBits b)
    rw [BitVec.getMsbD_append, if_neg (Nat.not_le.2 (List.mem_range.1 hk))]
  have hgone : (b ++ (0 : Byte) : Word16) <<< 8 = 0 := by
    apply BitVec.eq_of_toNat_eq
    simp only [BitVec.toNat_shiftLeft, toNat_append_byte, Nat.shiftLeft_eq, BitVec.toNat_zero, BitVec.ofNat_eq_ofNat]
    omega
  calc crcByte r b = crcBit^[8] (r ^^^ (b ++ (0 : Byte))) := rfl
    _ = (byteBits b).foldl crcStep r := by rw [iterate_crcBit_xor, hbits, hgone]; exact BitVec.xor_zero

theorem crc_eq_foldl_bits (bytes : List Byte) : crc bytes = (bytes.flatMap byteBits).foldl crcStep 0xFFFF := by
  rw [crc, List.foldl_flatMap, funext₂ crcByte_eq_foldl]

/-! ### The layout of a frame (R156) -/

theorem extractLsb'_high_byte (c : Word16) : c.extractLsb' 8 8 = BitVec.ofNat 8 (c.toNat / 256) := by
  rw [BitVec.extractLsb', Nat.shiftRight_eq_div_pow]

theorem extractLsb'_low_byte (c : Word16) : c.extractLsb' 0 8 = BitVec.ofNat 8 c.toNat := rfl

/-- The check that is sent is the check that is received. -/
theorem check_bytes_append (c : Word16) : c.extractLsb' 8 8 ++ c.extractLsb' 0 8 = c := by
  rw [BitVec.extractLsb'_append_extractLsb'_eq_extractLsb' (Nat.zero_add 8).symm, BitVec.extractLsb'_eq_self]

theorem frameBytes_eq (tag kind : Byte) (payload : List Byte) :
    frameBytes tag kind payload =
      [0xA5, BitVec.ofNat 8 payload.length, tag, kind] ++ payload ++
        [BitVec.ofNat 8 ((crc ([BitVec.ofNat 8 payload.length, tag, kind] ++ payload)).toNat / 256),
          BitVec.ofNat 8 (crc ([BitVec.ofNat 8 payload.length, tag, kind] ++ payload)).toNat] := by
  simp only [frameBytes, frameCheck, extractLsb'_high_byte, extractLsb'_low_byte]
  rfl

/-- The eleven bytes of a notice (R153), the subject, the state and the outcome by their codes when absent. -/
theorem NoticeFrame.payload_eq (n : NoticeFrame) :
    n.payload =
      [BitVec.ofNat 8 (subjectNumber n.subject), BitVec.ofNat 8 n.kind.code, BitVec.ofNat 8 n.count] ++
        u32 n.stamp.toNat ++ [n.state.elim 0xFF fun st => BitVec.ofNat 8 st.code] ++ u16 n.ticket ++
        [n.outcome.elim 0 fun o => BitVec.ofNat 8 o.code] := by
  obtain ⟨subject, kind, count, stamp, state, ticket, outcome⟩ := n
  cases state <;> cases outcome <;> rfl

/-! ### A whole frame received (R157, R159) -/

/-- The port after a character that has left the receiver at `r`, and has done nothing else (R157, R158). -/
def Port.heard (p : Port) (r : Receiver) : Port := { p with gap := 0, rxHeld := false, receiver := r }

/-- The state with such a port. -/
def State.heard (s : State) (r : Receiver) : State := { s with port := s.port.heard r }

/-- A character that makes no frame ready is taken by the receiver alone. -/
theorem State.receiveAll_cons {s : State} {b : Byte} (hquiet : (s.port.receive b).offerDue = false) (rest : List Byte) :
    s.receiveAll (b :: rest) = ({ s with port := s.port.receive b } : State).receiveAll rest := by
  rw [State.receiveAll, exec_byteReceived, State.finish_of_no_offer _ hquiet]

theorem State.receiveAll_cons_heard {s : State} {b : Byte} {r : Receiver} (hquiet : s.port.offerDue = false)
    (hreceive : s.port.receive b = s.port.heard r) (rest : List Byte) :
    s.receiveAll (b :: rest) = (s.heard r).receiveAll rest := by
  rw [State.receiveAll_cons (by rw [hreceive]; exact hquiet), hreceive]
  rfl

theorem State.receiveAll_heard_cons {s : State} {b : Byte} {r r' : Receiver} (hquiet : s.port.offerDue = false)
    (hreceive : (s.port.heard r).receive b = s.port.heard r') (rest : List Byte) :
    (s.heard r).receiveAll (b :: rest) = (s.heard r').receiveAll rest :=
  State.receiveAll_cons_heard (s := s.heard r) hquiet hreceive rest

/-- The receiver with `due` payload bytes still to come: BODY, or CHECK with none (R157). -/
def Receiver.awaiting (len tag kind : Byte) (taken : List Byte) (due : Nat) : Receiver :=
  if due = 0 then .checkHigh len tag kind taken else .body len tag kind taken due

theorem Receiver.afterPayload_succ (len tag kind : Byte) (taken : List Byte) (due : Nat) :
    Receiver.afterPayload len tag kind taken (due + 1) = .awaiting len tag kind taken due := by
  simp [Receiver.afterPayload, Receiver.awaiting]

theorem Receiver.afterKind_eq (len tag kind : Byte) :
    Receiver.afterKind len tag kind = .awaiting len tag kind [] len.toNat := rfl

/-- SYNC, LEN, TAG and KIND take the receiver from HUNT to the payload. -/
theorem State.receiveAll_header {s : State} {len : Byte} (hhunt : s.port.receiver = .hunt)
    (hquiet : s.port.offerDue = false) (hlen : len.toNat ≤ 120) (tag kind : Byte) (rest : List Byte) :
    s.receiveAll (0xA5 :: len :: tag :: kind :: rest) =
      (s.heard (.awaiting len tag kind [] len.toNat)).receiveAll rest := by
  have hsync : s.port.receive 0xA5 = s.port.heard .headerLen := by simp [Port.receive, hhunt, Port.heard]
  have hlength : (s.port.heard .headerLen).receive len = s.port.heard (.headerTag len) := if_neg (Nat.not_lt.2 hlen)
  calc s.receiveAll (0xA5 :: len :: tag :: kind :: rest)
      = (s.heard .headerLen).receiveAll (len :: tag :: kind :: rest) := State.receiveAll_cons_heard hquiet hsync _
    _ = (s.heard (.headerTag len)).receiveAll (tag :: kind :: rest) := State.receiveAll_heard_cons hquiet hlength _
    _ = (s.heard (.headerKind len tag)).receiveAll (kind :: rest) := State.receiveAll_heard_cons hquiet rfl _
    _ = (s.heard (.awaiting len tag kind [] len.toNat)).receiveAll rest := State.receiveAll_heard_cons hquiet rfl _

/-- The payload bytes that are due are taken in their order, and the receiver comes to CHECK. -/
theorem State.receiveAll_payload {s : State} (hquiet : s.port.offerDue = false) (len tag kind : Byte)
    (payload : List Byte) :
    ∀ taken rest : List Byte,
      (s.heard (.awaiting len tag kind taken payload.length)).receiveAll (payload ++ rest) =
        (s.heard (.checkHigh len tag kind (taken ++ payload))).receiveAll rest := by
  induction payload with
  | nil => intro taken rest; rw [List.append_nil]; rfl
  | cons b payload ih =>
    intro taken rest
    have hbyte : (s.port.heard (.awaiting len tag kind taken (payload.length + 1))).receive b =
        s.port.heard (.awaiting len tag kind (taken ++ [b]) payload.length) :=
      congrArg s.port.heard (Receiver.afterPayload_succ len tag kind (taken ++ [b]) payload.length)
    rw [List.cons_append, List.length_cons, State.receiveAll_heard_cons hquiet hbyte, List.append_cons taken b payload]
    exact ih (taken ++ [b]) rest

/-- The two bytes of the frame's own check complete it, and it is accepted (R159, R161). -/
theorem State.receiveAll_check {s : State} {len tag kind high low : Byte} {payload : List Byte}
    (hquiet : s.port.offerDue = false) (hcheck : high ++ low = frameCheck len tag kind payload) (htag : tag ≠ 0)
    (hfresh : tag ∉ s.port.requests.map (·.tag)) (hroom : s.port.requests.length < 8) :
    (s.heard (.checkHigh len tag kind payload)).receiveAll [high, low] =
      { s with port := (s.port.heard .hunt).acceptFrame tag kind payload } := by
  have hjudged : (s.port.heard (.checkLow len tag kind payload high)).receive low =
      (s.port.heard .hunt).acceptFrame tag kind payload :=
    (Port.receive_checkLow rfl low).trans (Port.judgeFrame_accepts hcheck htag hfresh hroom)
  calc (s.heard (.checkHigh len tag kind payload)).receiveAll [high, low]
      = (s.heard (.checkLow len tag kind payload high)).receiveAll [low] := State.receiveAll_heard_cons hquiet rfl _
    _ = { s with port := (s.port.heard (.checkLow len tag kind payload high)).receive low } :=
      State.receiveAll_cons ((congrArg Port.offerDue hjudged).trans hquiet) []
    _ = { s with port := (s.port.heard .hunt).acceptFrame tag kind payload } := by rw [hjudged]

/-- A whole frame, part by part: header, payload, check. -/
theorem State.receiveAll_frameBytes {s : State} {tag : Byte} {payload : List Byte} (hhunt : s.port.receiver = .hunt)
    (hquiet : s.port.offerDue = false) (htag : tag ≠ 0) (hlen : payload.length ≤ 120)
    (hfresh : tag ∉ s.port.requests.map (·.tag)) (hroom : s.port.requests.length < 8) (kind : Byte) :
    s.receiveAll (frameBytes tag kind payload) =
      { s with port := (s.port.heard .hunt).acceptFrame tag kind payload } := by
  have hcarried : (BitVec.ofNat 8 payload.length).toNat = payload.length := by
    rw [BitVec.toNat_ofNat]
    omega
  rw [frameBytes, State.receiveAll_header hhunt hquiet (hcarried.trans_le hlen), hcarried,
    State.receiveAll_payload hquiet, List.nil_append,
    State.receiveAll_check hquiet (check_bytes_append _) htag hfresh hroom]

/-- Settles O28: the check bit by bit, the layout of each frame sent with the bytes of a notice at their places, and a
frame received part by part. -/
theorem framesOnTheLine : Obligations.FramesOnTheLine := by
  refine ⟨crc_eq_foldl_bits, frameBytes_eq, fun _ _ _ => rfl, fun _ _ => rfl, fun n => ?_, ?_⟩
  · refine ⟨n.payload, rfl, ?_⟩
    rw [n.payload_eq]
    refine ⟨rfl, ?_, ?_, rfl, rfl, ?_, rfl, ?_⟩
    · cases n.subject <;> rfl
    · cases n.kind <;> rfl
    · cases n.state <;> rfl
    · cases n.outcome <;> rfl
  · intro s tag kind payload hhunt hquiet htag hlen hfresh hroom
    rw [State.receiveAll_frameBytes hhunt hquiet htag hlen hfresh hroom, Port.heard, ← hhunt]
    rfl

end Sys2Proof.Machine
end

section
/-! PROOFS. The request reference (chapter 10): the settings of SET-SLOT (R27, R179, R180) and the report of IDENTIFY
(R173). -/
namespace Sys2Proof.Machine

/-! ### The six settings of SET-SLOT (R169, R179) -/

/-- A number below 2^16 is read back from the two bytes that carry it (R169). -/
theorem be16_u16 {n : Nat} (h : n < 65536) : be16 (BitVec.ofNat 8 (n / 256)) (BitVec.ofNat 8 n) = n := by
  simp only [be16, BitVec.toNat_ofNat]
  omega

theorem readButtonPolicy_code (p : ButtonPolicy) : readButtonPolicy (BitVec.ofNat 8 p.code) = some p := by
  cases p <;> rfl

theorem readButtonPolicy_eq_none {b : Byte} (h : 1 < b.toNat) : readButtonPolicy b = none := by
  simp [readButtonPolicy, readFlag_eq_none h]

theorem readOverride_eq_none {n : Nat} (h : ¬(n ≤ 20000 ∨ n = 65535)) : readOverride n = none := by
  obtain ⟨hrange, hclear⟩ := not_or.1 h
  rw [readOverride, if_neg hrange, if_neg hclear]

theorem absentCode_eq_getD (d : Option Nat) : absentCode d = d.getD 65535 := by
  cases d <;> rfl

/-- A draw in range, or none, is read back from its two bytes (R169, R179). -/
theorem readOverride_u16 {draw : Option Nat} (h : ∀ d ∈ draw, d ≤ 20000) :
    readOverride (be16 (BitVec.ofNat 8 (draw.getD 65535 / 256)) (BitVec.ofNat 8 (draw.getD 65535))) = some draw := by
  cases draw with
  | none =>
    rw [Option.getD_none, be16_u16 (by omega)]
    simp [readOverride]
  | some d =>
    have hd : d ≤ 20000 := h d rfl
    rw [Option.getD_some, be16_u16 (by omega), readOverride, if_pos hd]

/-- The settings read are the six fields read one by one. -/
theorem readSettings_eq_some_iff {pr pi o1 o0 bp au rs : Byte} {t : SlotSettings} :
    readSettings pr pi o1 o0 bp au rs = some t ↔
      readRange 0 7 pr.toNat = some t.priority ∧ readProfileField pi = some t.profileIndex ∧
      readOverride (be16 o1 o0) = some t.overrideDraw ∧ readButtonPolicy bp = some t.buttonPolicy ∧
      readFlag au = some t.autoStart ∧ readFlag rs = some t.restoreAfterShed := by
  obtain ⟨priority, profileIndex, overrideDraw, buttonPolicy, autoStart, restoreAfterShed⟩ := t
  simp [readSettings, Option.bind_eq_some_iff, -Bool.exists_bool]

/-- One field outside its range and no settings are read (R179). -/
theorem readSettings_eq_none {pr pi o1 o0 bp au rs : Byte}
    (hbad : ¬(pr.toNat ≤ 7 ∧ pi.toNat ≤ 3 ∧
      ((o1 ++ o0 : Word16).toNat ≤ 20000 ∨ (o1 ++ o0 : Word16).toNat = 65535) ∧ bp.toNat ≤ 1 ∧ au.toNat ≤ 1 ∧
      rs.toNat ≤ 1)) :
    readSettings pr pi o1 o0 bp au rs = none := by
  refine Option.eq_none_iff_forall_ne_some.2 fun t ht => hbad ?_
  obtain ⟨hpr, hpi, hdraw, hbp, hau, hrs⟩ := readSettings_eq_some_iff.1 ht
  rw [be16_eq_toNat_append] at hdraw
  refine ⟨(readRange_eq_some_iff.1 hpr).1.2, ?_, ?_, ?_, ?_, ?_⟩ <;> by_contra hout
  · simp [readProfileField_eq_none (Nat.lt_of_not_le hout)] at hpi
  · simp [readOverride_eq_none hout] at hdraw
  · simp [readButtonPolicy_eq_none (Nat.lt_of_not_le hout)] at hbp
  · simp [readFlag_eq_none (Nat.lt_of_not_le hout)] at hau
  · simp [readFlag_eq_none (Nat.lt_of_not_le hout)] at hrs

/-- The seven bytes of six settings, as the request and its reply carry them (R171, R179). -/
def SlotSettings.bytes (t : SlotSettings) : List Byte :=
  [BitVec.ofNat 8 t.priority, BitVec.ofNat 8 t.profileIndex.val] ++ u16 (t.overrideDraw.getD 65535) ++
    [BitVec.ofNat 8 t.buttonPolicy.code, flagByte t.autoStart, flagByte t.restoreAfterShed]

/-- Settings in range are read back from the bytes that carry them. -/
theorem readSettings_bytes {t : SlotSettings} (hpriority : t.priority ≤ 7) (hdraw : ∀ d ∈ t.overrideDraw, d ≤ 20000) :
    readSettings (BitVec.ofNat 8 t.priority) (BitVec.ofNat 8 t.profileIndex.val)
      (BitVec.ofNat 8 (t.overrideDraw.getD 65535 / 256)) (BitVec.ofNat 8 (t.overrideDraw.getD 65535))
      (BitVec.ofNat 8 t.buttonPolicy.code) (flagByte t.autoStart) (flagByte t.restoreAfterShed) = some t := by
  have hcarried : (BitVec.ofNat 8 t.priority).toNat = t.priority := by
    rw [BitVec.toNat_ofNat]
    omega
  have hread : readRange 0 7 (BitVec.ofNat 8 t.priority).toNat = some t.priority :=
    readRange_eq_some_iff.2 ⟨by omega, hcarried⟩
  exact readSettings_eq_some_iff.2 ⟨hread, readProfileField_ofNat _, readOverride_u16 hdraw, readButtonPolicy_code _,
    readFlag_flagByte _, readFlag_flagByte _⟩

/-- A slot that has taken settings reports them (R171). -/
theorem settingsBytes_becomes (b : State) (i : SlotId) (sl : Slot) (t : SlotSettings) (os : List Occurrence) :
    settingsBytes ((b.becomes i (sl.withSettings t) os).slot i) = t.bytes := by
  rw [State.slot_becomes_same, settingsBytes, SlotSettings.bytes, ← absentCode_eq_getD, flag_eq_flagByte,
    flag_eq_flagByte]
  rfl

/-! ### The entry of a WAITING slot in its new priority group (R27) -/

/-- The state after a slot's entry has moved to the tail of a priority group: behind every other entry of that or a
higher priority, with a new stamp and a bypass count of 0. -/
def State.withEntryMoved (s : State) (e : QueueEntry) (priority : Nat) : State :=
  { s with
    admission.enqueueCounter := min 4294967295 (s.admission.enqueueCounter + 1)
    admission.passDue := true
    admission.queue :=
      queueWith { e with priority := priority, stamp := min 4294967295 (s.admission.enqueueCounter + 1), bypass := 0 }
        (s.admission.queue.filter fun x => decide (x.slot ≠ e.slot)) }

theorem State.moveEntry_of_find {s : State} {i : SlotId} {e : QueueEntry} (priority : Nat)
    (hfind : s.admission.queue.find? (fun x => decide (x.slot = i)) = some e) :
    s.moveEntry i priority = s.withEntryMoved e priority := by
  obtain rfl : e.slot = i := by simpa using List.find?_some hfind
  simp only [State.moveEntry, hfind, placeEntry_eq_queueWith]
  rfl

/-- Moving an entry acts on the base. -/
theorem State.moveEntry_becomes (b : State) (i j : SlotId) (sl : Slot) (os : List Occurrence) (priority : Nat) :
    (b.becomes i sl os).moveEntry j priority = (b.moveEntry j priority).becomes i sl os := by
  simp only [State.moveEntry, State.becomes_admission]
  cases b.admission.queue.find? fun e => decide (e.slot = j) <;> rfl

/-! ### The body of SET-SLOT (R179, R180) -/

theorem setSlotRequest_badSlot {n : Byte} (pr pi o1 o0 bp au rs : Byte) (s : State) (h : n.toNat = 0 ∨ 24 < n.toNat) :
    setSlotRequest [n, pr, pi, o1, o0, bp, au, rs] s = (s, [0x20]) := by
  simp only [setSlotRequest, readSlotField_eq_none h]
  rfl

theorem setSlotRequest_disabled {s : State} {i : SlotId} (pr pi o1 o0 bp au rs : Byte)
    (hdisabled : (s.slot i).hardware.enabled = false) :
    setSlotRequest [slotByte i, pr, pi, o1, o0, bp, au, rs] s = (s, [0x12]) := by
  simp only [setSlotRequest, readSlotField_slotByte]
  exact if_pos hdisabled

theorem setSlotRequest_badValue {s : State} {i : SlotId} {pr pi o1 o0 bp au rs : Byte}
    (henabled : (s.slot i).hardware.enabled = true) (hread : readSettings pr pi o1 o0 bp au rs = none) :
    setSlotRequest [slotByte i, pr, pi, o1, o0, bp, au, rs] s = (s, [0x21]) := by
  simp only [setSlotRequest, readSlotField_slotByte, hread, henabled]
  rfl

/-- The base of the state that SET-SLOT leaves: a WAITING slot given another priority has its entry moved. -/
def State.regrouped (s : State) (i : SlotId) (priority : Nat) : State :=
  if (s.slot i).power = .waiting ∧ priority ≠ (s.slot i).priority then s.moveEntry i priority else s

theorem State.regrouped_of_kept {s : State} {i : SlotId} {priority : Nat}
    (h : (s.slot i).power ≠ .waiting ∨ priority = (s.slot i).priority) : s.regrouped i priority = s :=
  if_neg fun ⟨hwaiting, hother⟩ => h.elim (· hwaiting) hother

theorem State.regrouped_of_moved {s : State} {i : SlotId} {priority : Nat} {e : QueueEntry}
    (hwaiting : (s.slot i).power = .waiting) (hother : priority ≠ (s.slot i).priority)
    (hfind : s.admission.queue.find? (fun x => decide (x.slot = i)) = some e) :
    s.regrouped i priority = s.withEntryMoved e priority :=
  (if_pos ⟨hwaiting, hother⟩).trans (State.moveEntry_of_find priority hfind)

/-- Settings in range are written together, the slot's entry following them, and answered as they came. -/
theorem setSlotRequest_bytes {s : State} {i : SlotId} {t : SlotSettings}
    (henabled : (s.slot i).hardware.enabled = true) (hpriority : t.priority ≤ 7)
    (hdraw : ∀ d ∈ t.overrideDraw, d ≤ 20000) :
    setSlotRequest (slotByte i :: t.bytes) s =
      ((s.regrouped i t.priority).becomes i ((s.slot i).withSettings t) [], 0x00 :: t.bytes) := by
  have hstate : (if (s.slot i).power = .waiting ∧ t.priority ≠ (s.slot i).priority then
        (s.upd i fun sl => sl.withSettings t).moveEntry i t.priority
      else s.upd i fun sl => sl.withSettings t) =
      (s.regrouped i t.priority).becomes i ((s.slot i).withSettings t) [] := by
    rw [State.upd_eq_becomes, State.moveEntry_becomes, State.regrouped]
    split <;> rfl
  simp only [SlotSettings.bytes, u16, List.cons_append, List.nil_append, setSlotRequest, readSlotField_slotByte,
    readSettings_bytes hpriority hdraw, henabled, Bool.true_eq_false, if_false, hstate, settingsBytes_becomes]
  rfl

/-- Settles O20: the checks in their order, then the settings written with the slot's entry where it stands or at the
tail of its new group. -/
theorem setSlot : Obligations.SetSlot := by
  refine ⟨fun s tag n pr pi o1 o0 bp au rs howes hn => ?_, ?_, ?_⟩
  · exact ⟨_, rfl, howes.execute_answered (setSlotRequest_badSlot pr pi o1 o0 bp au rs s hn) rfl rfl⟩
  · intro s tag pr pi o1 o0 bp au rs i payload sl draw ok howes
    refine ⟨fun hdisabled => ?_, fun henabled hbad => ?_⟩
    · exact ⟨_, rfl, howes.execute_answered (setSlotRequest_disabled pr pi o1 o0 bp au rs hdisabled) rfl rfl⟩
    · exact ⟨_, rfl, howes.execute_answered (setSlotRequest_badValue henabled (readSettings_eq_none hbad)) rfl rfl⟩
  · intro s tag i pr pi draw bp au rs fields sl new stamp howes henabled hdraw
    have hbody := setSlotRequest_bytes (t := ⟨pr.val, pi, draw, bp, au, rs⟩) henabled (Nat.le_of_lt_succ pr.isLt) hdraw
    refine ⟨fun hkept => ?_, fun hwaiting hother e hfind => ?_⟩
    · rw [State.regrouped_of_kept hkept] at hbody
      exact ⟨_, rfl, howes.execute_answered hbody rfl rfl⟩
    · obtain rfl : e.slot = i := by simpa using List.find?_some hfind
      rw [State.regrouped_of_moved hwaiting hother hfind] at hbody
      exact ⟨_, rfl, howes.execute_answered hbody rfl rfl⟩

/-! ### IDENTIFY (R173) -/

/-- The restart cause as it is carried (R169). -/
theorem RestartCause.code_byte (c : RestartCause) :
    BitVec.ofNat 8 c.code = (match c with | .powerOn => 0 | .restartLine => 1 | .restartRequest => 2 : Byte) := by
  cases c <;> rfl

theorem identifyRequest_nil (s : State) :
    identifyRequest [] s =
      (s, ([0x00, 0x0B, 0x7A, 0x00, 0x24, 1, 24, 4, 1] : List Byte) ++ [BitVec.ofNat 8 s.part.restartCause.code] ++
        [flagByte s.part.frozen] ++ u32 s.part.uptime.toNat) := by
  rw [← flag_eq_flagByte]
  rfl

/-- Settles O6: the report is made from the state as it stands. -/
theorem identify : Obligations.Identify := by
  intro s tag howes
  have hbody := identifyRequest_nil s
  rw [RestartCause.code_byte] at hbody
  exact ⟨_, rfl, howes.execute_answered hbody rfl rfl⟩

end Sys2Proof.Machine
end

section
set_option deprecated.oldSectionVars true -- takes the proofs one after another: few threads wait for the kernel at a time
/-! PROOFS. The body of each request, and its answer to a payload of a wrong length (R162, R170). -/
namespace Sys2Proof.Machine

/-- The body that the execution of each request carries out. -/
def requestBody : Instr → State → State × List Byte
  | .identify _ p => identifyRequest p
  | .grant _ p => grantRequest p
  | .readLink _ p => readLinkRequest p
  | .setNotices _ p => setNoticesRequest p
  | .readSlot _ p => readSlotRequest p
  | .readQueue _ p => readQueueRequest p
  | .readBudget _ p => readBudgetRequest p
  | .readEvents _ p => readEventsRequest p
  | .ackEvents _ p => ackEventsRequest p
  | .readProfile _ p => readProfileRequest p
  | .powerOn _ p => powerOnRequest p
  | .powerOff _ p => powerOffRequest p
  | .clearFault _ p => clearFaultRequest p
  | .lock _ p => lockRequest .lock p
  | .unlock _ p => lockRequest .unlock p
  | .setIndicator _ p => setIndicatorRequest p
  | .setSlot _ p => setSlotRequest p
  | .setHardware _ p => setHardwareRequest p
  | .setSupply _ p => setSupplyRequest p
  | .setBudget _ p => setBudgetRequest p
  | .setProfile _ p => setProfileRequest p
  | .setClasses _ p => setClassesRequest p
  | .setBlink _ p => setBlinkRequest p
  | .gate _ p => gateRequest p
  | .freeze _ p => freezeRequest p
  | .restart _ p => restartRequest p
  | _ => badKindRequest

/-- A request that has a length of its own is carried out by its body. -/
theorem exec_eq_execute {c : Instr} {n : Nat} {tag kind : Byte} {payload : List Byte} (s : State)
    (hlength : payloadLength c = some n) (hrequest : c.request = some (tag, kind, payload)) :
    exec c s = .next (s.execute tag kind payload (requestBody c)) := by
  cases c <;> simp only [payloadLength, reduceCtorEq] at hlength <;>
    simp only [Instr.request, Option.some.injEq, Prod.mk.injEq] at hrequest <;>
    (obtain ⟨rfl, rfl, rfl⟩ := hrequest; rfl)

/-- Every body answers a payload of another length than its own with BAD_LENGTH, and changes nothing. -/
theorem requestBody_of_badLength {c : Instr} {n : Nat} {tag kind : Byte} {payload : List Byte} (s : State)
    (hlength : payloadLength c = some n) (hrequest : c.request = some (tag, kind, payload)) (hne : payload.length ≠ n) :
    requestBody c s = (s, [0x23]) := by
  cases c <;> simp only [payloadLength, Option.some.injEq, reduceCtorEq] at hlength <;>
    simp only [Instr.request, Option.some.injEq, Prod.mk.injEq] at hrequest <;>
    obtain ⟨-, -, rfl⟩ := hrequest <;> subst hlength <;>
    simp only [requestBody, identifyRequest, grantRequest, readLinkRequest, setNoticesRequest, readSlotRequest,
      readQueueRequest, readBudgetRequest, readEventsRequest, ackEventsRequest, readProfileRequest, powerOnRequest,
      powerOffRequest, clearFaultRequest, lockRequest, setIndicatorRequest, setSlotRequest, setHardwareRequest,
      setSupplyRequest, setBudgetRequest, setProfileRequest, setClassesRequest, setBlinkRequest, gateRequest,
      freezeRequest, restartRequest] <;>
    (split
     · exact absurd rfl hne
     · rfl)

end Sys2Proof.Machine
end

section
set_option deprecated.oldSectionVars true -- takes the proofs one after another: few threads wait for the kernel at a time
/-! PROOFS. Steps and time: what the part owes and what a step takes (O1, O2), one tick (O3), and the lines (O4). -/
namespace Sys2Proof.Machine

/-- Settles O1: the queue is not empty, so the step takes its front. -/
theorem stepTakesTheFrontCommand : Obligations.StepTakesTheFrontCommand := fun _ _ _ => rfl

/-! ### The execution of a request, as a happening that is owed (R162) -/

theorem requestCommand_request (tag kind : Byte) (payload : List Byte) :
    (requestCommand tag kind payload).request = some (tag, kind, payload) := by
  have hkind : ∀ n : Byte, kind.toNat = n.toNat → n = kind := fun n h => (BitVec.eq_of_toNat_eq h).symm
  unfold requestCommand
  split <;> simp only [Instr.request, Option.some.injEq, Prod.mk.injEq, true_and, and_true] <;> exact hkind _ ‹_›

/-- A KIND of the table has a row of its own, and a KIND outside it the BAD_KIND row (R162). -/
theorem requestCommand_isBadKind (tag kind : Byte) (payload : List Byte) :
    (requestCommand tag kind payload).isBadKind = true ↔ kind ∉ requestCodes := by
  have hkinds : ∀ k : Byte, (requestCommand 0 k []).isBadKind = true ↔ k ∉ requestCodes := by decide
  have hrow : (requestCommand tag kind payload).isBadKind = (requestCommand 0 kind []).isBadKind := by
    unfold requestCommand
    split <;> rfl
  rw [hrow, hkinds]

/-- A command is the execution of the request of a KIND, tag and payload. -/
theorem eq_requestCommand_iff {c : Instr} {tag kind : Byte} {payload : List Byte} :
    c = requestCommand tag kind payload ↔
      c.request = some (tag, kind, payload) ∧ (c.isBadKind = true → kind ∉ requestCodes) := by
  constructor
  · rintro rfl
    exact ⟨requestCommand_request tag kind payload, (requestCommand_isBadKind tag kind payload).1⟩
  · rintro ⟨hrequest, hbad⟩
    cases c with
    | badKind t k p =>
      obtain ⟨rfl, rfl, rfl⟩ : t = tag ∧ k = kind ∧ p = payload := by simpa [Instr.request] using hrequest
      have hrow := (requestCommand_isBadKind t k p).2 (hbad rfl)
      have hsame := requestCommand_request t k p
      revert hrow hsame
      cases requestCommand t k p <;> simp [Instr.isBadKind, Instr.request]
      exact fun ht hk hp => ⟨ht.symm, hk.symm, hp.symm⟩
    | _ =>
      simp only [Instr.request, Option.some.injEq, Prod.mk.injEq, reduceCtorEq] at hrequest <;>
        (obtain ⟨rfl, rfl, rfl⟩ := hrequest; rfl)

/-! ### The happenings that are due -/

theorem mem_dueIf {c : Bool} {h x : Instr} : x ∈ dueIf c h ↔ c = true ∧ x = h := by
  unfold dueIf
  cases c <;> simp

theorem State.mem_dueRequest {s : State} {c : Instr} :
    c ∈ s.dueRequest ↔ s.part.restartAsk = .none ∧ ∃ r, s.port.nextRequest = some r ∧
      c.request = some (r.tag, r.kind, r.payload) ∧ (c.isBadKind = true → r.kind ∉ requestCodes) := by
  unfold State.dueRequest
  split
  · rename_i hnone
    simp [hnone]
  · rename_i r hr
    simp only [mem_dueIf, decide_eq_true_eq, eq_requestCommand_iff, hr, Option.some.injEq, exists_eq_left']

/-- The happenings of the present tick, block by block. -/
theorem State.mem_dueNow {s : State} {c : Instr} :
    c ∈ s.dueNow ↔
      (s.part.restartAsk.isDue = true ∧ c = .requestedRestart) ∨
      (s.part.restartLine.riseDue 5 = true ∧ c = .restartLineRise) ∨
      (∃ n, (s.budget.supplies.get n).line.dueAfter 10 = true ∧
        c = .supplyGoodChange n (s.budget.supplies.get n).line.level) ∨
      (∃ i, c ∈ (s.slot i).dueLines i ∨ c ∈ (s.slot i).dueEnds i) ∨
      (s.port.gapDue = true ∧ c = .gapAbort) ∨
      (∃ p, ((s.pattern p).atBoundary = true ∧ c = .blinkPeriodBoundary p) ∨
        ((s.pattern p).atOnTimeEnd = true ∧ c = .blinkOnTimeEnd p)) ∨
      (s.admission.passDue = true ∧ c = .admissionPass) := by
  have hpattern : (c ∈ s.dueOfPattern .slow ∨ c ∈ s.dueOfPattern .fast) ↔
      ∃ p, ((s.pattern p).atBoundary = true ∧ c = .blinkPeriodBoundary p) ∨
        ((s.pattern p).atOnTimeEnd = true ∧ c = .blinkOnTimeEnd p) := by
    simp only [State.dueOfPattern, List.mem_append, mem_dueIf]
    constructor
    · rintro (h | h)
      · exact ⟨.slow, h⟩
      · exact ⟨.fast, h⟩
    · rintro ⟨p, h⟩
      cases p with
      | slow => exact .inl h
      | fast => exact .inr h
  rw [← hpattern]
  simp only [State.dueNow, List.mem_append, mem_dueIf, List.mem_flatMap, List.mem_finRange, true_and, State.dueOfSupply,
    State.dueOfSlot, allSlots, or_assoc]

/-- What is due of a line, in the words of R2 and R109. -/
theorem Line.riseDue_iff {n : Nat} {l : Line} : l.riseDue n = true ↔ l.Turns true n := by
  obtain ⟨level, held, count⟩ := l
  cases level <;> cases held <;> simp [Line.riseDue, Line.dueAfter, Line.Turns]

theorem Line.fallDue_iff {n : Nat} {l : Line} : l.fallDue n = true ↔ l.Turns false n := by
  obtain ⟨level, held, count⟩ := l
  cases level <;> cases held <;> simp [Line.fallDue, Line.dueAfter, Line.Turns]

theorem Line.dueAfter_iff {n : Nat} {l : Line} {v : Bool} : l.dueAfter n = true ∧ v = l.level ↔ l.Turns v n := by
  obtain ⟨level, held, count⟩ := l
  cases level <;> cases held <;> cases v <;> simp [Line.dueAfter, Line.Turns]

theorem Port.gapDue_iff {p : Port} : p.gapDue = true ↔ p.receiver ≠ .hunt ∧ 11 ≤ p.gap := by
  unfold Port.gapDue
  cases p.receiver <;> simp [Receiver.running]

theorem PowerState.ramping_iff {st : PowerState} :
    st.ramping = true ↔ st ∈ [.auxRamp, .mainRamp, .settle, .readyWait] := by
  cases st <;> decide

theorem PowerState.timeoutFault_isSome_iff {st : PowerState} :
    st.timeoutFault.isSome = true ↔ st ∈ [.auxRamp, .mainRamp, .readyWait] := by
  cases st <;> decide

theorem RestartAsk.isDue_iff {a : RestartAsk} : a.isDue = true ↔ a = .due true ∨ a = .due false := by
  rcases a with _ | _ | (_ | _) <;> simp [RestartAsk.isDue]

theorem BlinkPattern.atBoundary_iff {b : BlinkPattern} :
    b.atBoundary = true ↔ b.crossing = true ∧ b.period ≤ b.phase + 1 := by
  simp [BlinkPattern.atBoundary]

theorem BlinkPattern.atOnTimeEnd_iff {b : BlinkPattern} :
    b.atOnTimeEnd = true ↔ b.crossing = true ∧ b.phase + 1 < b.period ∧ b.phase + 1 = b.onTime := by
  simp [BlinkPattern.atOnTimeEnd, and_assoc]

/-- A command that is no request is owed at the present tick exactly when its row of `State.Due` says so. -/
theorem State.mem_dueNow_iff_due {s : State} {c : Instr} (h : c.request = none) : c ∈ s.dueNow ↔ s.Due c := by
  rw [State.mem_dueNow]
  cases c with
  | insertion i class0 class1 =>
    simp [Slot.dueLines, Slot.dueEnds, mem_dueIf, State.Due, Line.riseDue_iff, @eq_comm _ class0, @eq_comm _ class1]
  | railGoodFalls i rail =>
    cases rail <;> simp [Slot.dueLines, Slot.dueEnds, mem_dueIf, State.Due, Line.fallDue_iff, BayLines.goodOf]
  | railLostDue i rail => cases rail <;> simp [Slot.dueLines, Slot.dueEnds, mem_dueIf, State.Due]
  | stageDueEnd i =>
    simp [Slot.dueLines, Slot.dueEnds, mem_dueIf, State.Due, PowerState.ramping_iff, and_comm]
  | stageDeadlineExpiry i =>
    simp [Slot.dueLines, Slot.dueEnds, mem_dueIf, State.Due, PowerState.timeoutFault_isSome_iff, and_comm]
  | drainDueEnd i => simp [Slot.dueLines, Slot.dueEnds, mem_dueIf, State.Due, and_comm]
  | _ =>
    simp [Instr.request] at h <;>
      simp [Slot.dueLines, Slot.dueEnds, mem_dueIf, State.Due, Line.riseDue_iff, Line.fallDue_iff, Line.dueAfter_iff,
        Port.gapDue_iff, RestartAsk.isDue_iff, Slot.lockOp_isSome_iff, BlinkPattern.atBoundary_iff,
        BlinkPattern.atOnTimeEnd_iff]

/-- What is owed at the present tick is no execution of a request (R162). -/
theorem State.request_of_mem_dueNow {s : State} {c : Instr} (h : c ∈ s.dueNow) : c.request = none := by
  rw [State.mem_dueNow] at h
  cases c with
  | identify | grant | readLink | setNotices | readSlot | readQueue | readBudget | readEvents | ackEvents | readProfile
  | powerOn | powerOff | clearFault | lock | unlock | setIndicator | setSlot | setHardware | setSupply | setBudget
  | setProfile | setClasses | setBlink | gate | freeze | restart | badKind =>
    simp [Slot.dueLines, Slot.dueEnds, mem_dueIf] at h
  | _ => rfl

theorem State.mem_dueHappenings_iff_mem_dueNow {s : State} {c : Instr} (h : c.request = none) :
    c ∈ s.dueHappenings ↔ c ∈ s.dueNow := by
  simp only [State.dueHappenings, List.mem_append, State.mem_dueRequest, h, reduceCtorEq, false_and, exists_false,
    and_false, or_false]

/-- The execution of a request is owed as `State.Due` says (R162). -/
theorem State.mem_dueRequest_iff_due {s : State} {c : Instr} (h : c.request.isSome = true) :
    c ∈ s.dueRequest ↔ s.Due c := by
  have hdue : c ∈ s.dueRequest ↔ s.part.restartAsk = .none ∧
      (c.isBadKind = true → ∀ k ∈ requestCodes, c.request.map (·.2.1) ≠ some k) ∧
      (s.port.requests.find? fun r => r.reply.isNone).map (fun r => (r.tag, r.kind, r.payload)) = c.request := by
    rw [State.mem_dueRequest]
    refine and_congr_right fun _ => ?_
    constructor
    · rintro ⟨r, hr, hrequest, hbad⟩
      refine ⟨fun hb k hk => ?_, ?_⟩
      · rw [hrequest]
        exact fun e => hbad hb ((show r.kind = k from Option.some.inj e) ▸ hk)
      · rw [show s.port.requests.find? (fun r => r.reply.isNone) = some r from hr, hrequest]
        rfl
    · rintro ⟨hbad, hfind⟩
      obtain ⟨⟨tag, kind, payload⟩, hrequest⟩ := Option.isSome_iff_exists.1 h
      rw [hrequest] at hfind
      obtain ⟨r, hr, heq⟩ := Option.map_eq_some_iff.1 hfind
      refine ⟨r, hr, hrequest.trans (congrArg some heq.symm), fun hb hk => hbad hb _ hk ?_⟩
      rw [hrequest, ← heq]
      rfl
  rw [hdue]
  cases c <;> simp [Instr.request] at h <;> rfl

/-- The happenings that the part owes are those that `State.Due` spells out. -/
theorem State.mem_dueHappenings {s : State} {c : Instr} : c ∈ s.dueHappenings ↔ s.Due c := by
  cases h : c.request with
  | none => rw [State.mem_dueHappenings_iff_mem_dueNow h, State.mem_dueNow_iff_due h]
  | some r =>
    have hnow : c ∉ s.dueNow := fun hc => by simp [State.request_of_mem_dueNow hc] at h
    rw [State.dueHappenings, List.mem_append, or_iff_right hnow, State.mem_dueRequest_iff_due (by simp [h])]

/-- A tick is open exactly while at most the execution of a request is owed. -/
theorem State.dueNow_eq_nil_iff {s : State} : s.dueNow = [] ↔ ∀ c, s.Due c → c.request.isSome = true := by
  constructor
  · intro h c hc
    cases hr : c.request with
    | some r => rfl
    | none => simp [(State.mem_dueNow_iff_due hr).symm, h] at hc
  · refine fun h => List.eq_nil_iff_forall_not_mem.2 fun c hc => ?_
    have hr := State.request_of_mem_dueNow hc
    simpa [hr] using h c ((State.mem_dueNow_iff_due hr).1 hc)

/-! ### What a step without a command takes (log 2) -/

theorem State.choose_of_single {s : State} {m : Option Instr} (h : s.moves = [m]) : s.choose = (m, s) := by
  simp [State.choose, h]

/-- Of several moves the free value names one. -/
theorem State.choose_of_several {s : State} {m : Option Instr} (hlen : 2 ≤ s.moves.length)
    (hm : s.moves[Config.choice s.choices % s.moves.length]? = some m) :
    s.choose = (m, { s with choices := s.choices + 1 }) := by
  unfold State.choose
  match hmoves : s.moves with
  | [] => simp [hmoves] at hlen
  | [_] => simp [hmoves] at hlen
  | m₀ :: m₁ :: rest =>
    rw [hmoves] at hm
    have hget : (m₀ :: m₁ :: rest).getD (Config.choice s.choices % (rest.length + 2)) m₀ = m := by
      rw [List.getD_eq_getElem?_getD]
      exact congrArg (Option.getD · m₀) hm
    exact congrArg (·, _) hget

/-- Settles O2: membership in the lists of what is due, row by row, and the two ways in which a move is chosen. -/
theorem stepWithoutCommand : Obligations.StepWithoutCommand := by
  refine fun s => ⟨fun c => State.mem_dueHappenings, fun c => ?_, ?_, fun hpending => ?_⟩
  · rw [State.some_mem_moves, State.mem_dueHappenings]
  · rw [State.none_mem_moves, State.dueNow_eq_nil_iff]
  · have hidle : step s = idle s := by rw [step, hpending]
    refine ⟨fun m hm => ?_, fun k m hlen hk hm => ?_⟩
    · rw [hidle, idle, State.choose_of_single hm]
      cases m <;> rfl
    · subst hk
      rw [hidle, idle, State.choose_of_several hlen hm]
      cases m <;> rfl

end Sys2Proof.Machine
end

section
set_option deprecated.oldSectionVars true -- takes the proofs one after another: few threads wait for the kernel at a time
/-! PROOFS. Requests to a slot (chapters 2, 3 and 6): the POWER-ON that joins the queue (R23), the POWER-OFF of a slot that is
not yet ON (R63 to R65), LOCK and UNLOCK (R124), and SET-HARDWARE (R127 to R129). -/
namespace Sys2Proof.Machine

/-! ### POWER-ON that joins (R23) -/

theorem powerOnRequest_joins {s : State} {i : SlotId} (hidle : (s.slot i).power = .idle)
    (hpasses : (s.slot i).mayPowerOn) :
    powerOnRequest [slotByte i] s =
      ((s.afterJoin i .host false).becomes i
        ((s.slot i).windowless.joined .host s.part.ticketCounter s.part.uptime) [],
        0x01 :: u16 s.part.ticketCounter) := by
  have hjoins : s.cancelHoldOff i = s.becomes i (s.slot i).windowless [] := s.cancelHoldOff_eq_becomes i
  have hpower : ((s.cancelHoldOff i).slot i).power = .idle := by
    rw [State.slot_cancelHoldOff_same]
    exact hidle
  rw [powerOnRequest_slotByte, (Slot.powerOnCheck_none _).2 hpasses]
  simp only [Option.elim_none, State.powerOnPassed, hpower]
  rw [hjoins, State.joinQueue_becomes s i (s.slot i).windowless [] .host false rfl]
  rfl

/-- Settles O13: the window is cancelled, the checks pass, and the slot joins. -/
theorem powerOnJoins : Obligations.PowerOnJoins := fun _ _ _ howes hidle hpasses =>
  ⟨_, rfl, State.execute_answered howes (powerOnRequest_joins hidle hpasses) rfl howes.restart_not_due⟩

/-! ### POWER-OFF before ON (R63 to R65) -/

theorem powerOffRequest_badSlot {n : Byte} (f : Byte) (s : State) (h : n.toNat = 0 ∨ 24 < n.toNat) :
    powerOffRequest [n, f] s = (s, [0x20, 0, 0]) := by
  simp only [powerOffRequest, readSlotField_eq_none h]
  rfl

theorem powerOffRequest_badValue {f : Byte} (i : SlotId) (s : State) (h : 1 < f.toNat) :
    powerOffRequest [slotByte i, f] s = (s.becomes i (s.slot i).windowless [], [0x21, 0, 0]) := by
  simp only [powerOffRequest, readSlotField_slotByte, readFlag_eq_none h, State.cancelHoldOff_eq_becomes]
  rfl

/-- Without power and without an entry in the queue there is nothing to switch off (R64). -/
theorem State.powerOffAction_off_already (b : State) (i : SlotId) {sl : Slot} (os : List Occurrence) (force : Bool)
    (origin : Origin) (hpower : sl.power = .vacant ∨ sl.power = .idle ∨ sl.power = .faulted) :
    (b.becomes i sl os).powerOffAction i force origin = (b.becomes i sl os, Status.already, 0) := by
  obtain hvacant | hidle | hfaulted := hpower <;> simp only [State.powerOffAction, State.slot_becomes_power, *]

/-- The window plays no part in the cancelling of an operation in the queue. -/
theorem Slot.windowless_cancelled (sl : Slot) (now : Word32) :
    sl.windowless.cancelled now = { sl.ended .cancelled now with power := .idle, holdOff := none } := by
  cases ho : sl.operation <;> simp only [Slot.cancelled, Slot.ended, Slot.windowless, ho]

/-- Settles O15: by the power state, with the slot's window cancelled before the action. -/
theorem powerOffBeforeOn : Obligations.PowerOffBeforeOn := by
  refine ⟨⟨fun s tag i force howes hpower => ?_, fun s tag i force o howes hwaiting ho => ?_,
    fun s tag n f howes hn => ?_, fun s tag f i howes hf => ?_⟩, fun s tag i force o howes ho hpower => ?_⟩
  · exact powerOff_answered howes
      (State.powerOffAction_off_already (sl := (s.slot i).windowless) s i [] force .host hpower) rfl rfl
  · have hcancels :=
      State.powerOffAction_waiting_cancels (sl := (s.slot i).windowless) s i [] force .host hwaiting
    rw [Slot.windowless_cancelled, Slot.endPosts_of_some (sl := (s.slot i).windowless) i ho,
      Slot.opTicket_of_mem (sl := (s.slot i).windowless) ho] at hcancels
    exact powerOff_answered howes hcancels rfl rfl
  · exact ⟨_, rfl, howes.execute_answered (powerOffRequest_badSlot f s hn) rfl rfl⟩
  · exact ⟨_, rfl, howes.execute_answered (powerOffRequest_badValue i s hf) rfl rfl⟩
  · have haborts :=
      State.powerOffAction_poweringOn_aborts (sl := (s.slot i).windowless) s i [] force .host hpower rfl
    rw [Slot.windowless_off_ended, Slot.endPosts_of_some (sl := (s.slot i).windowless) i ho,
      Slot.opTicket_of_mem (sl := (s.slot i).windowless) ho] at haborts
    exact powerOff_answered howes haborts (s.afterRelease_requests i) (s.afterRelease_restartAsk i)

/-! ### LOCK and UNLOCK (R123, R124) -/

/-- The lock operation that a LOCK or an UNLOCK asks for. -/
def lockKind (engage : Bool) : OpKind := if engage then .lock else .unlock

theorem lockKind_isLock (engage : Bool) : (lockKind engage).isLock = true := by
  cases engage <;> rfl

theorem lockTarget_lockKind (engage : Bool) : lockTarget (lockKind engage) = engage := by
  cases engage <;> rfl

theorem lockState_lockKind_iff (engage : Bool) (st : PowerState) :
    lockState (lockKind engage) st = true ↔ st = .vacant ∨ st = .idle ∨ (st = .faulted ∧ engage = false) := by
  cases engage <;> simp [lockState, lockKind, or_assoc]

/-- A slot record on which a lock operation has been started (R124). -/
def Slot.locking (sl : Slot) (kind : OpKind) (ticket : Nat) (now : Word32) : Slot :=
  { sl with
    operation := some ⟨kind, ticket, .host, now⟩
    lockTimer := some 500
    lockEndDue := if sl.lines.lockSense.held = lockTarget kind then some ticket else sl.lockEndDue }

/-- The start of a lock operation (R124), in the form. -/
theorem State.startLock_eq_becomes (s : State) (i : SlotId) {kind : OpKind} (hkind : kind.isLock = true) :
    s.startLock i kind =
      (s.withTicketCounter (ticketAfter s.part.ticketCounter)).becomes i
        ((s.slot i).locking kind s.part.ticketCounter s.part.uptime) [] := by
  have hstart : s.startOperation i kind .host =
      (s.withTicketCounter (ticketAfter s.part.ticketCounter)).becomes i
        { s.slot i with operation := some ⟨kind, s.part.ticketCounter, .host, s.part.uptime⟩ } [] := by
    rw [State.withTicketCounter, ← nextTicket_eq_ticketAfter]
    unfold State.startOperation
    simp only [hkind, Bool.and_true]
    exact congrArg State.advanceTicket (s.upd_eq_becomes i _)
  rw [State.startLock, hstart]
  exact State.upd_becomes _ i _ _ _ _ (fun _ _ _ => rfl) rfl

/-- The drive of a slot in which a lock operation has been started (R123). -/
theorem Slot.locking_lockDrive (sl : Slot) (engage : Bool) (ticket : Nat) (now : Word32) :
    (sl.locking (lockKind engage) ticket now).lockDrive = if engage then .engage else .release := by
  cases engage <;> rfl

theorem lockRequest_badSlot {n : Byte} (kind : OpKind) (s : State) (h : n.toNat = 0 ∨ 24 < n.toNat) :
    lockRequest kind [n] s = (s, [0x20, 0, 0]) := by
  simp only [lockRequest, readSlotField_eq_none h]
  rfl

theorem lockRequest_refused {s : State} {i : SlotId} {kind : OpKind} {st : Status}
    (h : (s.slot i).lockCheck kind = some st) : lockRequest kind [slotByte i] s = (s, [st.code, 0, 0]) := by
  simp only [lockRequest, readSlotField_slotByte, h]
  rfl

theorem lockRequest_accepted {s : State} {i : SlotId} {kind : OpKind} (h : (s.slot i).lockCheck kind = none)
    (hkind : kind.isLock = true) :
    lockRequest kind [slotByte i] s =
      ((s.withTicketCounter (ticketAfter s.part.ticketCounter)).becomes i
        ((s.slot i).locking kind s.part.ticketCounter s.part.uptime) [], 0x01 :: u16 s.part.ticketCounter) := by
  simp only [lockRequest, readSlotField_slotByte, h, State.startLock_eq_becomes s i hkind]
  rfl

/-- An owed LOCK or UNLOCK is answered with the reply of its body. -/
theorem lock_answered {s u : State} {tag n : Byte} {engage : Bool} {reply : List Byte}
    (howes : s.Owes (if engage then 0x23 else 0x24) tag [n])
    (hbody : lockRequest (lockKind engage) [n] s = (u, reply)) (hreq : u.port.requests = s.port.requests)
    (hask : u.part.restartAsk = s.part.restartAsk) :
    ∃ t, exec (if engage then Instr.lock tag [n] else Instr.unlock tag [n]) s = .next t ∧
      u.Answered t (if engage then 0x23 else 0x24) tag reply := by
  cases engage with
  | true => exact ⟨_, rfl, State.execute_answered howes hbody hreq (hask ▸ howes.restart_not_due)⟩
  | false => exact ⟨_, rfl, State.execute_answered howes hbody hreq (hask ▸ howes.restart_not_due)⟩

/-- A reply leaves every slot as the request left it. -/
theorem State.Answered.slot_eq {u t : State} {kind tag : Byte} {reply : List Byte} (h : u.Answered t kind tag reply)
    (i : SlotId) : t.slot i = u.slot i := by
  obtain ⟨hapart, -⟩ := h
  exact (congrArg (fun v : State => v.slot i) hapart :)

/-- Settles O18: the checks one by one, each by the value it tests, and the start when all pass. -/
theorem lockAndUnlock : Obligations.LockAndUnlock := by
  refine ⟨?_, ?_⟩
  · intro s tag i engage kind c sl stateOk howes
    have hstate : lockState (lockKind engage) sl.power = true ↔ stateOk := lockState_lockKind_iff engage sl.power
    have hrefused : ∀ {st}, sl.lockCheck (lockKind engage) = some st →
        ∃ t, exec c s = .next t ∧ s.Answered t kind tag [st.code, 0, 0] :=
      fun hcheck => lock_answered howes (lockRequest_refused hcheck) rfl rfl
    refine ⟨fun hdisabled => hrefused (st := .disabled) ?_, fun henabled hunfitted => hrefused (st := .noLock) ?_,
      fun henabled hfitted hinUse => hrefused (st := .inUse) ?_, fun henabled hfitted hok hbusy => hrefused (st := .busy) ?_,
      fun henabled hfitted hok hfree => ?_⟩
    · simp [Slot.lockCheck, hdisabled]
    · simp [Slot.lockCheck, henabled, hunfitted]
    · rw [← hstate, Bool.not_eq_true] at hinUse
      simp [Slot.lockCheck, henabled, hfitted, hinUse]
    · rw [← hstate] at hok
      simp [Slot.lockCheck, henabled, hfitted, hok, hbusy]
    · rw [← hstate] at hok
      have hcheck : sl.lockCheck (lockKind engage) = none := by
        simp [Slot.lockCheck, henabled, hfitted, hok, hfree]
      obtain ⟨t, hexec, hanswered⟩ :=
        lock_answered howes (lockRequest_accepted hcheck (lockKind_isLock engage)) rfl rfl
      refine ⟨t, hexec, ?_, ?_⟩
      · rw [hanswered.slot_eq, State.slot_becomes_same]
        exact sl.locking_lockDrive engage s.part.ticketCounter s.part.uptime
      · rw [Slot.locking, lockTarget_lockKind] at hanswered
        exact hanswered
  · intro s tag n engage hn kind howes
    exact lock_answered howes (lockRequest_badSlot _ s hn) rfl rfl

/-! ### SET-HARDWARE (R127 to R129) -/

theorem readHardware_flagByte (e l h : Bool) :
    readHardware (flagByte e) (flagByte l) (flagByte h) = some ⟨e, l, h⟩ := by
  simp only [readHardware, readFlag_flagByte]
  rfl

theorem readHardware_eq_none {e l h : Byte} (hbad : 1 < e.toNat ∨ 1 < l.toNat ∨ 1 < h.toNat) :
    readHardware e l h = none := by
  obtain he | hl | hh := hbad
  · simp [readHardware, readFlag_eq_none he]
  · simp [readHardware, readFlag_eq_none hl]
  · simp [readHardware, readFlag_eq_none hh]

theorem hardwareBytes_mk (e l h : Bool) : hardwareBytes ⟨e, l, h⟩ = [flagByte e, flagByte l, flagByte h] := by
  simp only [hardwareBytes, flag_eq_flagByte]
  rfl

/-- Emptying the events of a slot (R142), in the form. -/
theorem State.emptyEvents_becomes (b : State) (i : SlotId) (sl : Slot) :
    (b.becomes i sl []).emptyEvents i = b.emptiedAt i sl := by
  have hset : (b.becomes i sl []).setPending (some i) 0 =
      { b with slots := b.slots.set i.val (({ sl with pendingSet := 0 } : Slot).driven b.slow.lit b.fast.lit) i.isLt } := by
    simp only [State.setPending, State.upd, State.setSlot, State.slot_becomes_same]
    simp only [State.becomes, State.posting_nil, Vector.set_set]
    rfl
  unfold State.emptyEvents State.emptiedAt
  rw [hset]

theorem State.slot_emptiedAt_same (b : State) (i : SlotId) (sl : Slot) :
    (b.emptiedAt i sl).slot i = ({ sl with pendingSet := 0 } : Slot).driven b.slow.lit b.fast.lit :=
  (b.slot_with_set i i _).trans (if_pos rfl)

/-- The end of a lock operation, its deadline discarded (R126), in the form. -/
theorem State.endLock_becomes (b : State) (i : SlotId) (sl : Slot) (os : List Occurrence) (outcome : OutcomeKind) :
    (b.becomes i sl os).endLock i outcome =
      b.becomes i { sl.ended outcome b.part.uptime with lockTimer := none } (os ++ sl.endPosts i) := by
  have htimer : (b.becomes i sl os).upd i (fun sl => { sl with lockTimer := none }) =
      b.becomes i { sl with lockTimer := none } os :=
    State.upd_becomes b i sl _ os _ (fun _ _ _ => rfl) rfl
  rw [State.endLock, htimer, State.endOperation_becomes]
  cases ho : sl.operation <;> simp only [Slot.ended, Slot.endPosts, ho]

/-- A slot record that has been disabled, its lock operation apart (R128). -/
def Slot.disabledRecord (sl : Slot) : Slot :=
  { sl with holdOff := none, power := .vacant, moduleClass := none, autoPending := false, pendingSet := 0 }

/-- A disabling (R128), in the form, up to the lock operation that it discards. -/
theorem State.disable_becomes (b : State) (i : SlotId) (sl : Slot) :
    (b.becomes i sl []).disable i =
      if sl.lockOp.isSome then (b.emptiedAt i sl.disabledRecord).endLock i .discarded
      else b.emptiedAt i sl.disabledRecord := by
  have hvacates : (b.becomes i sl []).upd i
      (fun sl => { sl with holdOff := none, power := .vacant, moduleClass := none, autoPending := false }) =
      b.becomes i { sl.disabledRecord with pendingSet := sl.pendingSet } [] :=
    State.upd_becomes b i sl _ [] _ (fun _ _ _ => rfl) rfl
  have hop : ((b.emptiedAt i sl.disabledRecord).slot i).lockOp = sl.lockOp := by
    rw [State.slot_emptiedAt_same]
    rfl
  have hemptied : (b.becomes i { sl.disabledRecord with pendingSet := sl.pendingSet } []).emptyEvents i =
      b.emptiedAt i sl.disabledRecord := b.emptyEvents_becomes i _
  unfold State.disable
  simp only [hvacates, hemptied, hop]

/-- The slot already has the record that it takes. -/
theorem State.emptiedAt_becomes_self (b : State) (i : SlotId) {sl : Slot} (hempty : sl.pendingSet = 0) :
    (b.emptiedAt i sl).becomes i sl [] = b.emptiedAt i sl := by
  have hrecord : ({ sl with pendingSet := sl.pendingSet ||| kindsFor (some i) [] } : Slot) = { sl with pendingSet := 0 } := by
    simp [hempty, kindsFor]
  simp only [State.becomes, State.posting_nil, hrecord, State.emptiedAt, State.realert, Vector.set_set]

/-- With a lock operation in flight a disabling discards it, whose OP_DONE enters the emptied set (R128). -/
theorem State.emptiedAt_endLock (b : State) (i : SlotId) {sl : Slot} {o : Operation} (hempty : sl.pendingSet = 0)
    (ho : sl.operation = some o) (outcome : OutcomeKind) :
    (b.emptiedAt i sl).endLock i outcome =
      (b.emptiedAt i sl).becomes i { sl.ended outcome b.part.uptime with lockTimer := none }
        [(some i, EventKind.opDone)] := by
  conv_lhs => rw [← b.emptiedAt_becomes_self i hempty]
  rw [State.endLock_becomes, Slot.endPosts_of_some i ho]
  rfl

theorem classLines_eq_classOf (l : BayLines) : l.classLines = classOf l.class0 l.class1 := by
  unfold BayLines.classLines classOf
  cases l.class0 <;> cases l.class1 <;> rfl

/-- A slot record in which a module has come into service (R111, R129). -/
def Slot.arrived (sl : Slot) : Slot :=
  { sl with
    power := .idle, autoPending := true, moduleClass := some (classOf sl.lines.class0 sl.lines.class1) }

/-- A module that comes into service (R111, R129), in the form. -/
theorem State.moduleArrives_becomes (b : State) (i : SlotId) (sl : Slot) (os : List Occurrence)
    (hp : sl.priority = (b.slot i).priority) :
    (b.becomes i sl os).moduleArrives i = b.becomesOrStarts i sl.arrived (os ++ [(some i, .inserted)]) := by
  have harrives : (b.becomes i sl os).upd i
      (fun sl => { sl with moduleClass := some sl.lines.classLines, power := .idle, autoPending := true }) =
      b.becomes i sl.arrived os := by
    simp only [classLines_eq_classOf]
    exact State.upd_becomes b i sl _ os _ (fun _ _ _ => rfl) rfl
  rw [State.moduleArrives, harrives, State.occur_becomes, State.autoAttempt_becomes b i sl.arrived _ hp]

theorem setHardwareRequest_badSlot {n : Byte} (e l h : Byte) (s : State) (hn : n.toNat = 0 ∨ 24 < n.toNat) :
    setHardwareRequest [n, e, l, h] s = (s, [0x20]) := by
  simp only [setHardwareRequest, readSlotField_eq_none hn]
  rfl

theorem setHardwareRequest_badValue {e l h : Byte} (i : SlotId) (s : State)
    (hbad : 1 < e.toNat ∨ 1 < l.toNat ∨ 1 < h.toNat) : setHardwareRequest [slotByte i, e, l, h] s = (s, [0x21]) := by
  simp only [setHardwareRequest, readSlotField_slotByte, readHardware_eq_none hbad]
  rfl

theorem setHardwareRequest_refused {s : State} {i : SlotId} {e l h : Bool} {st : Status}
    (hcheck : (s.slot i).hardwareCheck s.part.frozen ⟨e, l, h⟩ = some st) :
    setHardwareRequest [slotByte i, flagByte e, flagByte l, flagByte h] s = (s, [st.code]) := by
  simp only [setHardwareRequest, readSlotField_slotByte, readHardware_flagByte, hcheck]
  rfl

/-- The state that a SET-HARDWARE with its checks passed leaves (R127 to R129). -/
def State.withHardware (s : State) (i : SlotId) (hw : Hardware) : State :=
  let s1 := s.becomes i { s.slot i with hardware := hw } []
  if (s.slot i).hardware.enabled = true ∧ hw.enabled = false then s1.disable i
  else if (s.slot i).hardware.enabled = false ∧ hw.enabled = true then s1.enable i
  else s1

/-- With enabled unchanged the settings are written and nothing else happens (R127). -/
theorem State.withHardware_kept {s : State} {i : SlotId} {hw : Hardware}
    (h : hw.enabled = (s.slot i).hardware.enabled) :
    s.withHardware i hw = s.becomes i { s.slot i with hardware := hw } [] := by
  unfold State.withHardware
  rw [if_neg, if_neg] <;> simp [h]

/-- A disabling (R128). -/
theorem State.withHardware_disables {s : State} {i : SlotId} {hw : Hardware}
    (hwas : (s.slot i).hardware.enabled = true) (hnow : hw.enabled = false) :
    s.withHardware i hw = (s.becomes i { s.slot i with hardware := hw } []).disable i :=
  if_pos ⟨hwas, hnow⟩

/-- An enabling (R129). -/
theorem State.withHardware_enables {s : State} {i : SlotId} {hw : Hardware}
    (hwas : (s.slot i).hardware.enabled = false) (hnow : hw.enabled = true) :
    s.withHardware i hw =
      if (s.slot i).lines.present.held then
        s.becomesOrStarts i ({ s.slot i with hardware := hw } : Slot).arrived [(some i, .inserted)]
      else s.becomes i { s.slot i with hardware := hw } [] := by
  have hpresent : ((s.becomes i { s.slot i with hardware := hw } []).slot i).lines.present.held =
      (s.slot i).lines.present.held := by
    rw [State.slot_becomes_same]
    rfl
  unfold State.withHardware
  rw [if_neg (by simp [hwas]), if_pos ⟨hwas, hnow⟩, State.enable, hpresent]
  split
  · exact State.moduleArrives_becomes s i { s.slot i with hardware := hw } [] rfl
  · rfl

theorem setHardwareRequest_written {s : State} {i : SlotId} {e l h : Bool}
    (hcheck : (s.slot i).hardwareCheck s.part.frozen ⟨e, l, h⟩ = none) :
    setHardwareRequest [slotByte i, flagByte e, flagByte l, flagByte h] s =
      (s.withHardware i ⟨e, l, h⟩, [0x00, flagByte e, flagByte l, flagByte h]) := by
  simp only [setHardwareRequest, readSlotField_slotByte, readHardware_flagByte, hcheck, hardwareBytes_mk,
    State.upd_eq_becomes]
  rfl

theorem Slot.hardwareCheck_none {sl : Slot} {hw : Hardware}
    (hstate : sl.power = .vacant ∨ sl.power = .idle ∨ sl.power = .faulted)
    (hlock : (∃ o ∈ sl.operation, o.kind = .lock ∨ o.kind = .unlock) →
      hw.lockFitted = sl.hardware.lockFitted ∧ (hw.enabled = false ∨ hw.enabled = sl.hardware.enabled)) :
    sl.hardwareCheck false hw = none := by
  rw [← Slot.lockOp_isSome_iff] at hlock
  have hservice : ¬(sl.power ≠ .vacant ∧ sl.power ≠ .idle ∧ sl.power ≠ .faulted) := by tauto
  rw [Slot.hardwareCheck, if_neg Bool.false_ne_true, if_neg hservice, if_neg (by tauto)]

/-- An owed SET-HARDWARE whose checks pass is answered in the state that it leaves. -/
theorem setHardware_answered {s u : State} {tag : Byte} {i : SlotId} {e l h : Bool}
    (howes : s.Owes 0x31 tag [slotByte i, flagByte e, flagByte l, flagByte h])
    (hcheck : (s.slot i).hardwareCheck s.part.frozen ⟨e, l, h⟩ = none) (hu : s.withHardware i ⟨e, l, h⟩ = u)
    (hreq : u.port.requests = s.port.requests) (hask : u.part.restartAsk = s.part.restartAsk) :
    ∃ t, exec (.setHardware tag [slotByte i, flagByte e, flagByte l, flagByte h]) s = .next t ∧
      u.Answered t 0x31 tag [0x00, flagByte e, flagByte l, flagByte h] :=
  have hbody := (setHardwareRequest_written hcheck).trans (congrArg (fun t => (t, _)) hu)
  ⟨_, rfl, State.execute_answered howes hbody hreq (hask ▸ howes.restart_not_due)⟩

/-- Settles O21: the checks in their order, then the settings written with the slot's service unchanged, ended or begun. -/
theorem setHardware : Obligations.SetHardware := by
  refine ⟨⟨fun s tag n e l h howes hn => ?_, fun s tag e l h i howes hbad => ?_, ?_⟩, ?_⟩
  · exact ⟨_, rfl, howes.execute_answered (setHardwareRequest_badSlot e l h s hn) rfl rfl⟩
  · exact ⟨_, rfl, howes.execute_answered (setHardwareRequest_badValue i s hbad) rfl rfl⟩
  · intro s tag e l h i payload sl stateOk lockOp howes
    refine ⟨fun hfrozen => ?_, fun hthawed hinUse => ?_, fun hthawed hok hlock hchanged => ?_⟩
    · have hcheck : sl.hardwareCheck s.part.frozen ⟨e, l, h⟩ = some .frozen := if_pos hfrozen
      exact ⟨_, rfl, howes.execute_answered (setHardwareRequest_refused hcheck) rfl rfl⟩
    · have hcheck : sl.hardwareCheck s.part.frozen ⟨e, l, h⟩ = some .inUse := by
        have hbusy : sl.power ≠ .vacant ∧ sl.power ≠ .idle ∧ sl.power ≠ .faulted := by tauto
        rw [hthawed, Slot.hardwareCheck, if_neg Bool.false_ne_true, if_pos hbusy]
      exact ⟨_, rfl, howes.execute_answered (setHardwareRequest_refused hcheck) rfl rfl⟩
    · have hcheck : sl.hardwareCheck s.part.frozen ⟨e, l, h⟩ = some .busy := by
        have hservice : ¬(sl.power ≠ .vacant ∧ sl.power ≠ .idle ∧ sl.power ≠ .faulted) := by tauto
        rw [hthawed, Slot.hardwareCheck, if_neg Bool.false_ne_true, if_neg hservice,
          if_pos ⟨sl.lockOp_isSome_iff.2 hlock, hchanged⟩]
      exact ⟨_, rfl, howes.execute_answered (setHardwareRequest_refused hcheck) rfl rfl⟩
  · intro s tag e l h i payload sl reply gone come seated howes hthawed hstate hlock
    have hcheck : sl.hardwareCheck s.part.frozen ⟨e, l, h⟩ = none := hthawed ▸ Slot.hardwareCheck_none hstate hlock
    have hwritten : ∀ {u}, s.withHardware i ⟨e, l, h⟩ = u → u.port.requests = s.port.requests →
        u.part.restartAsk = s.part.restartAsk → ∃ t, exec (.setHardware tag payload) s = .next t ∧ u.Answered t 0x31 tag reply :=
      fun hu hreq hask => setHardware_answered howes hcheck hu hreq hask
    refine ⟨fun hsame => hwritten ?_ rfl rfl, fun henabled hdisables hfree => hwritten ?_ rfl rfl,
      fun o ho henabled hdisables hkind => hwritten ?_ rfl rfl, fun hdisabled henables habsent => hwritten ?_ rfl rfl,
      fun hdisabled henables hpresent hstays => hwritten ?_ rfl rfl,
      fun hdisabled henables hpresent hauto hseated => hwritten ?_ rfl rfl⟩
    · exact State.withHardware_kept hsame
    · have hop : ({ sl with hardware := ⟨e, l, h⟩ } : Slot).lockOp = none := by
        simp only [Slot.lockOp, hfree]
      rw [State.withHardware_disables henabled hdisables, State.disable_becomes, hop]
      rfl
    · have hop : ({ sl with hardware := ⟨e, l, h⟩ } : Slot).lockOp.isSome = true :=
        (Slot.lockOp_isSome_iff _).2 ⟨o, ho, hkind⟩
      rw [State.withHardware_disables henabled hdisables, State.disable_becomes, if_pos hop]
      exact State.emptiedAt_endLock (sl := gone) s i rfl ho .discarded
    · rw [State.withHardware_enables hdisabled henables, if_neg (Bool.eq_false_iff.1 habsent)]
    · have hrefused : ¬come.autoStarts := by
        rintro ⟨-, hauto, -, -, -, -, hlever, hsense, -⟩
        exact hstays ⟨hauto, hlever, hsense⟩
      rw [State.withHardware_enables hdisabled henables, if_pos hpresent]
      exact if_neg hrefused
    · have hfree : ∀ o ∈ sl.operation, o.kind ≠ .lock ∧ o.kind ≠ .unlock := by
        intro o ho
        by_contra hkind
        obtain ⟨-, hkept⟩ := hlock ⟨o, ho, by tauto⟩
        simp [henables, hdisabled] at hkept
      have hstarts : come.autoStarts :=
        ⟨rfl, hauto, rfl, henables, PowerState.noConfusion, hpresent, hseated.1, hseated.2, hfree⟩
      rw [State.withHardware_enables hdisabled henables, if_pos hpresent]
      exact if_pos hstarts

end Sys2Proof.Machine
end

section
set_option Elab.async false -- few threads at a time: each takes its stack from the check's memory
/-! PROOFS. The laws of the ranges, of the event unit and of the message port, in the midst of a happening (R143, R145,
R150, R151, R160 to R163), and the writes that every operation is made of. -/
namespace Sys2Proof.Machine

/-! ### The ranges, block by block -/

/-- The ranges of the budget unit (R1, R3, R4, R8). -/
structure Budget.InRange (b : Budget) : Prop where
  capacity : ∀ n, (b.supplies.get n).capacity ≤ 30000
  reserve : b.reserve ≤ 120000
  ceiling : b.ceiling ≤ 120000
  classDraws : ∀ c, b.classDraws.get c ≤ 20000

/-- The ranges of the admission unit (R25, R26, R34, R39). -/
structure Admission.InRange (a : Admission) : Prop where
  bypassLimit : a.bypassLimit ≤ 15
  enqueueCounter : a.enqueueCounter ≤ stampTop
  admissionCounter : a.admissionCounter ≤ stampTop
  queue : ∀ e ∈ a.queue, e.InRange

/-- The ranges of the message port (R156, R158, R166). -/
structure Port.InRange (p : Port) : Prop where
  linkRate : p.linkRate ≤ 3
  gap : p.gap ≤ 11
  framesAccepted : p.framesAccepted ≤ 65535
  checkFailures : p.checkFailures ≤ 65535
  gapAborts : p.gapAborts ≤ 65535
  lengthErrors : p.lengthErrors ≤ 65535
  droppedRejects : p.droppedRejects ≤ 65535

/-- The ranges of a slot record (R9, R11, R43, R46, R49, R79, R91, R117, R124). -/
structure Slot.Ranges (sl : Slot) : Prop where
  priority : sl.priority ≤ 7
  faultCount : sl.faultCount ≤ 255
  overrideDraw : ∀ d ∈ sl.overrideDraw, d ≤ 20000
  commitment : ∀ c ∈ sl.commitment, c.amount ≤ 20000 ∧ c.stamp ≤ stampTop
  stageTimer : ∀ t ∈ sl.stageTimer, t ≤ 60000
  holdOff : ∀ t ∈ sl.holdOff, t ≤ 15000
  lockTimer : ∀ t ∈ sl.lockTimer, t ≤ 500
  operation : ∀ o ∈ sl.operation, 1 ≤ o.ticket ∧ o.ticket ≤ 65535
  lastOutcome : ∀ o ∈ sl.lastOutcome, o.ticket ≤ 65535
  lastFault : ∀ f ∈ sl.lastFault, f.ticket ≤ 65535
  lockEndDue : ∀ t ∈ sl.lockEndDue, 1 ≤ t ∧ t ≤ 65535

theorem Slot.inRange_iff (sl : Slot) : sl.InRange ↔ sl.Ranges := by
  constructor
  · rintro ⟨hprio, hcount, hdraw, hcommit, hstage, hwindow, hlock, hop, hlast, hfault, hend⟩
    exact ⟨hprio, hcount, hdraw, hcommit, hstage, hwindow, hlock, hop, hlast, hfault, hend⟩
  · rintro ⟨hprio, hcount, hdraw, hcommit, hstage, hwindow, hlock, hop, hlast, hfault, hend⟩
    exact ⟨hprio, hcount, hdraw, hcommit, hstage, hwindow, hlock, hop, hlast, hfault, hend⟩

/-- The ranges of every block. -/
structure State.Ranges (s : State) : Prop where
  budget : s.budget.InRange
  admission : s.admission.InRange
  profiles : ∀ p, (s.profiles.get p).InRange
  holdOffTime : 1 ≤ s.holdOffTime ∧ s.holdOffTime ≤ 15
  ticketCounter : 1 ≤ s.part.ticketCounter ∧ s.part.ticketCounter ≤ 65535
  port : s.port.InRange
  slots : ∀ i, (s.slot i).Ranges

theorem State.inRange_iff (s : State) : s.InRange ↔ s.Ranges := by
  constructor
  · rintro ⟨hcap, hres, hceil, hdraws, hbyp, henq, hadm, hqueue, hprof, hho, hho', htick, htick', hrate, hgap, hacc, hchk,
      hga, hlen, hdrop, hslots⟩
    exact ⟨⟨hcap, hres, hceil, hdraws⟩, ⟨hbyp, henq, hadm, hqueue⟩, hprof, ⟨hho, hho'⟩, ⟨htick, htick'⟩,
      ⟨hrate, hgap, hacc, hchk, hga, hlen, hdrop⟩, fun i => (s.slot i).inRange_iff.1 (hslots i)⟩
  · rintro ⟨⟨hcap, hres, hceil, hdraws⟩, ⟨hbyp, henq, hadm, hqueue⟩, hprof, ⟨hho, hho'⟩, ⟨htick, htick'⟩,
      ⟨hrate, hgap, hacc, hchk, hga, hlen, hdrop⟩, hslots⟩
    exact ⟨hcap, hres, hceil, hdraws, hbyp, henq, hadm, hqueue, hprof, hho, hho', htick, htick', hrate, hgap, hacc, hchk,
      hga, hlen, hdrop, fun i => (s.slot i).inRange_iff.2 (hslots i)⟩

/-! ### The event unit -/

/-- The notices of two entries are not for one slot and kind (R143). -/
abbrev Notice.Apart (a b : Notice) : Prop := ¬(a.subject = b.subject ∧ a.kind = b.kind)

/-- The laws of the notice queue and the overflow fields by themselves (R143, R145). -/
structure Events.Sound (e : Events) : Prop where
  length : e.notices.length ≤ 32
  apart : e.notices.Pairwise Notice.Apart
  count : ∀ n ∈ e.notices, 1 ≤ n.count ∧ n.count ≤ 255
  lost : e.overflow = true ↔ e.lostCount ≠ 0
  stamp : e.overflow = true ↔ e.overflowStamp.isSome = true
  announced : e.announced = true → e.overflow = true
  lostCount : e.lostCount ≤ 255

/-- The laws of the event unit: ALERT, the kinds of the notices still pending, and the unit by itself (R143, R150). -/
structure State.EventsSound (s : State) : Prop where
  alert : s.events.alert = s.alerting
  pending : ∀ n ∈ s.events.notices, hasKind (s.pendingOf n.subject) n.kind = true
  unit : s.events.Sound

theorem State.eventsLawful_iff (s : State) : s.EventsLawful ↔ s.EventsSound := by
  constructor
  · rintro ⟨halert, hlen, hpw, hns, hlost, hstamp, hann, hcount⟩
    exact ⟨halert, fun n hn => (hns n hn).1, ⟨hlen, hpw, fun n hn => (hns n hn).2, hlost, hstamp, hann, hcount⟩⟩
  · rintro ⟨halert, hpend, ⟨hlen, hpw, hns, hlost, hstamp, hann, hcount⟩⟩
    exact ⟨halert, hlen, hpw, fun n hn => ⟨hpend n hn, hns n hn⟩, hlost, hstamp, hann, hcount⟩

/-! ### The message port -/

/-- The laws of the message port by itself, an offer due or not (R151, R156, R160, R161, R164). -/
structure Port.Sound (p : Port) : Prop where
  length : p.requests.length ≤ 8
  tags : (p.requests.map (·.tag)).Nodup
  fields : ∀ r ∈ p.requests, r.tag ≠ 0 ∧ r.payload.length ≤ 120
  order : p.requests.Pairwise fun a b => b.reply.isSome = true → a.reply.isSome = true
  replies : p.ready.filterMap Ready.replyTag = (p.requests.filter (·.reply.isSome)).map (·.tag)
  rejects : p.rejectsHeld ≤ 2
  credit : p.credit ≤ 64
  receiver : p.receiver.lawful = true
  held : p.rxHeld = true → p.ready = [] ∧ p.requests = [] ∧ p.sending = none ∧ p.credit = 0

/-- The OK reply of a RESTART is held or sent only while the restart it asked for has not been taken (R162, R175). -/
structure State.RestartReplies (s : State) : Prop where
  sending : ∀ f ∈ s.port.sending, f.isRestartReply = true → s.part.restartAsk ≠ .none
  waiting : ∀ r ∈ s.port.requests, r.kind = 0x7F → r.reply = some [0x00] → s.part.restartAsk ≠ .none

/-- The laws of the port in the midst of a happening: the line may be idle before a frame that waits while an offer is
due (R163, log 10). -/
structure State.PortOpen (s : State) : Prop where
  sound : s.port.Sound
  replies : s.RestartReplies
  busy : s.port.offerDue = false → s.LineBusy

theorem State.portOpen_iff (s : State) :
    s.PortLawful ∧ s.LineBusy ↔ s.PortOpen ∧ s.port.offerDue = false := by
  constructor
  · rintro ⟨⟨hlen, htags, hfields, horder, hready, hrej, hcredit, hrec, hheld, hdue, hsend, hwait⟩, hbusy⟩
    exact ⟨⟨⟨hlen, htags, hfields, horder, hready, hrej, hcredit, hrec, hheld⟩, ⟨hsend, hwait⟩, fun _ => hbusy⟩, hdue⟩
  · rintro ⟨⟨⟨hlen, htags, hfields, horder, hready, hrej, hcredit, hrec, hheld⟩, ⟨hsend, hwait⟩, hbusy⟩, hdue⟩
    exact ⟨⟨hlen, htags, hfields, horder, hready, hrej, hcredit, hrec, hheld, hdue, hsend, hwait⟩, hbusy hdue⟩

/-- What the line waits for: nothing that the event unit may send (R152, R163). -/
abbrev Events.Silent (e : Events) : Prop := e.notices = [] ∧ (e.overflow = true → e.announced = true)

/-- A change elsewhere that gives the event unit nothing more to send, or makes an offer due, keeps the port's laws. -/
theorem State.PortOpen.congr {s t : State} (h : s.PortOpen)
    (hport : { t.port with offerDue := s.port.offerDue } = s.port) (hask : t.part.restartAsk = s.part.restartAsk)
    (hquiet : t.port.offerDue = false → s.port.offerDue = false ∧ (s.events.Silent → t.events.Silent)) :
    t.PortOpen := by
  have hp : t.port = { s.port with offerDue := t.port.offerDue } := by rw [← hport]
  refine ⟨?_, ⟨?_, ?_⟩, fun hdue hidle => ?_⟩
  · rw [hp]
    exact { h.sound with }
  · rw [hp, hask]
    exact h.replies.sending
  · rw [hp, hask]
    exact h.replies.waiting
  · obtain ⟨hdue', hsilent⟩ := hquiet hdue
    have hidle' : s.lineIdle = true := by
      rw [State.lineIdle, hp, hask] at hidle
      exact hidle
    obtain ⟨hready, hnone⟩ := h.busy hdue' hidle'
    rw [hp]
    exact ⟨hready, hnone.imp_right hsilent⟩

/-! ### The writes that operations are made of -/

/-- From `s` to `t`, in the midst of a happening, the laws of the ranges, of the event unit and of the port are kept, and
the request queue is left alone. -/
structure State.KeepsLaws (s t : State) : Prop where
  ranges : s.Ranges → t.Ranges
  events : s.EventsSound → t.EventsSound
  port : s.PortOpen → t.PortOpen
  requests : t.port.requests = s.port.requests

namespace State.KeepsLaws

section
variable {r s t : State}

theorem refl (s : State) : s.KeepsLaws s := ⟨id, id, id, rfl⟩

theorem trans (h : r.KeepsLaws s) (h' : s.KeepsLaws t) : r.KeepsLaws t :=
  ⟨h'.ranges ∘ h.ranges, h'.events ∘ h.events, h'.port ∘ h.port, h'.requests.trans h.requests⟩

/-- A change that leaves the event unit, the pending sets, the port and the requested restart alone. -/
theorem frame (h : r.KeepsLaws s) (hevents : t.events = s.events)
    (hpending : ∀ i, (t.slot i).pendingSet = (s.slot i).pendingSet) (hport : t.port = s.port)
    (hask : t.part.restartAsk = s.part.restartAsk) (hranges : s.Ranges → t.Ranges) : r.KeepsLaws t := by
  refine h.trans ⟨hranges, fun he => ⟨?_, ?_, hevents ▸ he.unit⟩, fun hp => ?_, by rw [hport]⟩
  · rw [State.alerting_congr hevents hpending, hevents]
    exact he.alert
  · rw [hevents]
    intro n hn
    have hset : t.pendingOf n.subject = s.pendingOf n.subject := by
      cases n.subject with
      | none => simp only [State.pendingOf, hevents]
      | some i => exact hpending i
    rw [hset]
    exact he.pending n hn
  · exact hp.congr (by rw [hport]) hask fun hdue => ⟨hport ▸ hdue, by rw [hevents]; exact id⟩

/-- A record written in its ranges, the pending set kept. -/
theorem setSlot (h : r.KeepsLaws s) (i : SlotId) {sl : Slot} (hpending : sl.pendingSet = (s.slot i).pendingSet)
    (hrange : s.Ranges → sl.Ranges) : r.KeepsLaws (s.setSlot i sl) := by
  refine h.frame rfl (fun j => ?_) rfl rfl fun hr => { hr with slots := fun j => ?_ }
  · by_cases hj : j = i
    · subst hj
      simpa using hpending
    · rw [State.slot_setSlot_ne s sl hj]
  · by_cases hj : j = i
    · subst hj
      rw [State.slot_setSlot_same]
      exact { hrange hr with }
    · rw [State.slot_setSlot_ne s sl hj]
      exact hr.slots j

theorem upd (h : r.KeepsLaws s) (i : SlotId) {f : Slot → Slot}
    (hrange : s.Ranges → (f (s.slot i)).Ranges)
    (hpending : (f (s.slot i)).pendingSet = (s.slot i).pendingSet := by rfl) : r.KeepsLaws (s.upd i f) :=
  h.setSlot i hpending hrange

theorem updLines (h : r.KeepsLaws s) (i : SlotId) (f : BayLines → BayLines) : r.KeepsLaws (s.updLines i f) :=
  h.upd i fun hr => { hr.slots i with }

theorem withBudget (h : r.KeepsLaws s) {b : Budget} (hb : s.budget.InRange → b.InRange) :
    r.KeepsLaws { s with budget := b } :=
  h.frame rfl (fun _ => rfl) rfl rfl fun hr => { hr with budget := hb hr.budget }

theorem withAdmission (h : r.KeepsLaws s) {a : Admission} (ha : s.Ranges → a.InRange) :
    r.KeepsLaws { s with admission := a } :=
  h.frame rfl (fun _ => rfl) rfl rfl fun hr => { hr with admission := ha hr }

theorem withAccounts (h : r.KeepsLaws s) {b : Budget} {a : Admission} (hb : s.budget.InRange → b.InRange)
    (ha : s.admission.InRange → a.InRange) : r.KeepsLaws { s with budget := b, admission := a } :=
  h.frame rfl (fun _ => rfl) rfl rfl fun hr => { hr with budget := hb hr.budget, admission := ha hr.admission }

end

end State.KeepsLaws

end Sys2Proof.Machine
end

section
set_option Elab.async false -- few threads at a time: each takes its stack from the check's memory
/-! PROOFS. What an occurrence and the end of a happening do to the laws of the ranges, of the event unit and of the port
(R141 to R145, R152, R163). -/
namespace Sys2Proof.Machine

/-! ### A posting (R144, R145) -/

/-- A posting makes no entry but the one for its slot and kind. -/
theorem Events.mem_post {e : Events} {w : Option SlotId} {k : EventKind} {now : Word32} {n : Notice}
    (h : n ∈ (e.post w k now).notices) :
    (n.subject = w ∧ n.kind = k) ∨ ∃ m ∈ e.notices, m.subject = n.subject ∧ m.kind = n.kind := by
  obtain ⟨-, hpost⟩ | ⟨-, -, hpost⟩ | ⟨-, -, hpost⟩ := e.post_cases w k now
  · rw [hpost] at h
    obtain ⟨m, hm, rfl⟩ := List.mem_map.1 h
    refine .inr ⟨m, hm, ?_⟩
    split <;> exact ⟨rfl, rfl⟩
  · rw [hpost] at h
    obtain hn | hn := List.mem_append.1 h
    · exact .inr ⟨n, hn, rfl, rfl⟩
    · obtain rfl := List.mem_singleton.1 hn
      exact .inl ⟨rfl, rfl⟩
  · rw [hpost] at h
    exact .inr ⟨n, h, rfl, rfl⟩

theorem satInc_le {top n : Nat} : satInc top n ≤ top := Nat.min_le_left _ _

theorem satInc_pos {top n : Nat} (h : 1 ≤ top) : 1 ≤ satInc top n := le_min h (Nat.succ_pos n)

/-- A posting keeps the unit's laws: a raised count stays within 255, a new entry is for a slot and kind that had none,
and a lost occurrence starts or counts in an episode. -/
theorem Events.Sound.post {e : Events} (h : e.Sound) (w : Option SlotId) (k : EventKind) (now : Word32) :
    (e.post w k now).Sound := by
  obtain ⟨-, hpost⟩ | ⟨hnone, hroom, hpost⟩ | ⟨-, -, hpost⟩ := e.post_cases w k now
  · rw [hpost]
    refine { h with
      length := by simpa using h.length
      apart := List.pairwise_map.2 (h.apart.imp fun {a b} hab => ?_)
      count := fun n hn => ?_ }
    · split <;> split <;> exact hab
    · obtain ⟨m, hm, rfl⟩ := List.mem_map.1 hn
      split
      · exact ⟨satInc_pos (by decide), satInc_le⟩
      · exact h.count m hm
  · rw [hpost]
    refine { h with
      length := by simpa using hroom
      apart := List.pairwise_append.2 ⟨h.apart, List.pairwise_singleton _ _, fun a ha b hb => ?_⟩
      count := fun n hn => ?_ }
    · obtain rfl := List.mem_singleton.1 hb
      have hfor := List.any_eq_false.1 hnone a ha
      simpa [Notice.isFor] using hfor
    · obtain hn | hn := List.mem_append.1 hn
      · exact h.count n hn
      · obtain rfl := List.mem_singleton.1 hn
        exact ⟨Nat.le_refl 1, Nat.le_of_ble_eq_true rfl⟩
  · rw [hpost]
    have hpos : 1 ≤ satInc 255 e.lostCount := satInc_pos (by decide)
    refine ⟨h.length, h.apart, h.count, ⟨fun _ => Nat.ne_of_gt hpos, fun _ => rfl⟩, ⟨fun _ => ?_, fun _ => rfl⟩,
      fun _ => rfl, satInc_le⟩
    cases ho : e.overflow with
    | true => simpa [Events.lose, ho] using h.stamp.1 ho
    | false => simp [Events.lose, ho]

/-- The pending set of slot 0 and ALERT play no part in the unit's own laws. -/
theorem Events.sound_withSets_iff {e : Events} (set : Word16) (alert : Bool) :
    ({ e with pendingZero := set, alert := alert } : Events).Sound ↔ e.Sound :=
  ⟨fun h => { h with }, fun h => { h with }⟩

/-! ### An occurrence (R141) -/

/-- A kind once pending stays pending. -/
theorem hasKind_or {set bit : Word16} {k : EventKind} (h : hasKind set k = true) : hasKind (set ||| bit) k = true := by
  rw [hasKind_eq_getLsbD] at h ⊢
  rw [BitVec.getLsbD_or, h, Bool.true_or]

theorem hasKind_or_bit (set : Word16) (k : EventKind) : hasKind (set ||| k.bit) k = true := by
  have hbit : hasKind k.bit k = true := by cases k <;> decide
  rw [BitVec.or_comm]
  exact hasKind_or hbit

theorem State.hasKind_pendingOf_occur {s : State} {w : Option SlotId} {k : EventKind} (who : Option SlotId)
    (kind : EventKind) (h : hasKind (s.pendingOf w) k = true) : hasKind ((s.occur who kind).pendingOf w) k = true := by
  by_cases hw : w = who
  · subst hw
    rw [State.pendingOf_occur_same]
    exact hasKind_or h
  · rwa [State.pendingOf_occur_ne s kind hw]

theorem State.occur_notices (s : State) (who : Option SlotId) (k : EventKind) :
    (s.occur who k).events.notices =
      if hasKind s.events.noticeMask k then (s.events.post who k s.part.uptime).notices else s.events.notices := by
  have h := congrArg Events.notices (s.occur_events_apart who k)
  rw [apply_ite Events.notices] at h
  exact h

/-- An occurrence recomputes ALERT, so the laws of the notices are enough before it. -/
theorem State.eventsSound_occur {s : State} (hpending : ∀ n ∈ s.events.notices, hasKind (s.pendingOf n.subject) n.kind = true)
    (hunit : s.events.Sound) (who : Option SlotId) (k : EventKind) : (s.occur who k).EventsSound := by
  refine ⟨s.occur_alert who k, fun n hn => ?_, ?_⟩
  · rw [State.occur_notices] at hn
    split at hn
    · obtain ⟨hwho, hkind⟩ | ⟨m, hmem, hsubject, hkind⟩ := Events.mem_post hn
      · rw [hwho, hkind, State.pendingOf_occur_same]
        exact hasKind_or_bit _ k
      · rw [← hsubject, ← hkind]
        exact State.hasKind_pendingOf_occur who k (hpending m hmem)
    · exact State.hasKind_pendingOf_occur who k (hpending n hn)
  · rw [← Events.sound_withSets_iff s.events.pendingZero s.events.alert, State.occur_events_apart]
    split
    · exact hunit.post who k _
    · exact hunit

theorem State.EventsSound.occur {s : State} (h : s.EventsSound) (who : Option SlotId) (k : EventKind) :
    (s.occur who k).EventsSound :=
  State.eventsSound_occur h.pending h.unit who k

theorem State.Ranges.occur {s : State} (h : s.Ranges) (who : Option SlotId) (k : EventKind) :
    (s.occur who k).Ranges := by
  have hport : (s.occur who k).port.InRange := by
    rw [State.occur_port]
    split
    · exact { h.port with }
    · exact h.port
  refine ⟨by simpa using h.budget, by simpa using h.admission, by simpa using h.profiles, by simpa using h.holdOffTime,
    by simpa using h.ticketCounter, hport, fun j => ?_⟩
  by_cases hj : who = some j
  · subst hj
    rw [State.slot_occur_same]
    exact { h.slots j with }
  · rw [State.slot_occur_ne s k hj]
    exact h.slots j

/-- An occurrence whose kind is in the notice mask makes an offer due; another leaves the event unit as silent as it
was. -/
theorem State.PortOpen.occur {s : State} (h : s.PortOpen) (who : Option SlotId) (k : EventKind) :
    (s.occur who k).PortOpen := by
  have hevents := s.occur_events_apart who k
  have hport := s.occur_port who k
  cases hm : hasKind s.events.noticeMask k with
  | true =>
    rw [if_pos hm] at hport
    exact h.congr (by rw [hport]) (by rw [State.occur_part]) fun hdue => by
      simp [hport] at hdue
  | false =>
    rw [if_neg (by rw [hm]; decide)] at hport hevents
    refine h.congr (by rw [hport]) (by rw [State.occur_part]) fun hdue => ⟨hport ▸ hdue, fun hsilent => ?_⟩
    rwa [← hevents] at hsilent

theorem State.occur_requests (s : State) (who : Option SlotId) (k : EventKind) :
    (s.occur who k).port.requests = s.port.requests := by
  rw [State.occur_port]
  split <;> rfl

namespace State.KeepsLaws

section
variable {r s t : State}

theorem occur (h : r.KeepsLaws s) (who : Option SlotId) (k : EventKind) : r.KeepsLaws (s.occur who k) :=
  h.trans ⟨fun hr => hr.occur who k, fun he => he.occur who k, fun hp => hp.occur who k, s.occur_requests who k⟩

end

end State.KeepsLaws

/-! ### The offer and the end of a happening (R152, R163) -/

theorem Port.InRange.startReply {p : Port} (h : p.InRange) (tag : Byte) : (p.startReply tag).InRange := by
  unfold Port.startReply
  split <;> exact { h with }

/-- What an offer starts on the line leaves the rate and the counters (R163). -/
theorem State.Ranges.offer {s : State} (h : s.Ranges) : s.offer.Ranges := by
  have hport : s.offer.port.InRange := by
    have hsending : ∀ (ready : List Ready) (f : Option TxFrame) (c : Nat),
        ({ s.port with ready := ready, sending := f, credit := c } : Port).InRange := fun _ _ _ => { h.port with }
    obtain ⟨-, ho⟩ | ⟨-, tag, rest, -, ho⟩ | ⟨-, st, tag, rest, -, ho⟩ | ⟨-, -, -, ho⟩ | ⟨-, -, -, ho⟩ := s.offer_cases
    · rw [ho]
      exact h.port
    · rw [ho]
      exact (hsending rest s.port.sending s.port.credit).startReply tag
    · rw [ho]
      exact hsending _ _ _
    · rw [ho]
      obtain ⟨hn, -, -⟩ | ⟨-, -, hn⟩ | ⟨n, rest, -, -, hn⟩ := s.startNotice_cases
      · rw [hn]
        exact h.port
      · rw [hn]
        exact hsending _ _ _
      · rw [hn]
        exact hsending _ _ _
    · rw [ho]
      exact h.port
  obtain ⟨hframe, -⟩ := s.offer_frame
  have hbudget := congrArg State.budget hframe
  have hadmission := congrArg State.admission hframe
  have hprofiles := congrArg State.profiles hframe
  have hholdOff := congrArg State.holdOffTime hframe
  have hpart := congrArg State.part hframe
  have hslots := congrArg State.slots hframe
  dsimp only at hbudget hadmission hprofiles hholdOff hpart hslots
  exact ⟨hbudget ▸ h.budget, hadmission ▸ h.admission, hprofiles ▸ h.profiles, hholdOff ▸ h.holdOffTime,
    hpart ▸ h.ticketCounter, hport, fun i => State.slot_eq_of_slots hslots i ▸ h.slots i⟩

theorem State.Ranges.withOffer {s : State} (h : s.Ranges) (due : Bool) :
    ({ s with port.offerDue := due } : State).Ranges :=
  { h with port := { h.port with } }

theorem State.Ranges.finish {s : State} (h : s.Ranges) : s.finish.Ranges := by
  unfold State.finish
  split
  · exact (h.withOffer false).offer
  · exact h

/-- What an offer takes from the event unit leaves its laws: the head of the notice queue, or the announcement of an
episode. -/
theorem Events.Sound.offer {e e' : Events} (h : e.Sound) (hrest : e' = e ∨ (e.overflow = true ∧ e' = { e with announced := true }) ∨
    ∃ n rest, e.notices = n :: rest ∧ e' = { e with notices := rest }) : e'.Sound := by
  obtain rfl | ⟨hover, rfl⟩ | ⟨n, rest, hn, rfl⟩ := hrest
  · exact h
  · exact { h with announced := fun _ => hover }
  · have hlen := h.length
    have hapart := h.apart
    rw [hn] at hlen hapart
    refine { h with length := ?_, apart := (List.pairwise_cons.1 hapart).2, count := fun m hm => h.count m ?_ }
    · rw [List.length_cons] at hlen
      show rest.length ≤ 32
      omega
    · rw [hn]
      exact List.mem_cons_of_mem n hm

/-- What an offer does to the event unit. -/
theorem State.offer_events (s : State) :
    s.offer.events = s.events ∨
    (s.events.overflow = true ∧ s.offer.events = { s.events with announced := true }) ∨
    ∃ n rest, s.events.notices = n :: rest ∧ s.offer.events = { s.events with notices := rest } := by
  obtain ⟨-, ho⟩ | ⟨-, tag, rest, -, ho⟩ | ⟨-, st, tag, rest, -, ho⟩ | ⟨-, -, -, ho⟩ | ⟨-, -, -, ho⟩ := s.offer_cases
  · exact .inl (by rw [ho])
  · exact .inl (by rw [ho])
  · exact .inl (by rw [ho])
  · rw [ho]
    obtain ⟨hn, -, -⟩ | ⟨hover, -, hn⟩ | ⟨n, rest, hcons, -, hn⟩ := s.startNotice_cases
    · exact .inl (by rw [hn])
    · exact .inr (.inl ⟨hover, by rw [hn]⟩)
    · exact .inr (.inr ⟨n, rest, hcons, by rw [hn]⟩)
  · exact .inl (by rw [ho])

theorem State.EventsSound.offer {s : State} (h : s.EventsSound) : s.offer.EventsSound := by
  have hslots : s.offer.slots = s.slots := by
    have := congrArg State.slots s.offer_frame.1
    exact this
  have hcases := s.offer_events
  have hsets : s.offer.events.pendingZero = s.events.pendingZero ∧ s.offer.events.alertMask = s.events.alertMask ∧
      s.offer.events.alert = s.events.alert ∧ ∀ n ∈ s.offer.events.notices, n ∈ s.events.notices := by
    obtain he | ⟨-, he⟩ | ⟨n, rest, hn, he⟩ := hcases
    · rw [he]
      exact ⟨rfl, rfl, rfl, fun _ => id⟩
    · rw [he]
      exact ⟨rfl, rfl, rfl, fun _ => id⟩
    · rw [he, hn]
      exact ⟨rfl, rfl, rfl, fun _ => List.mem_cons_of_mem n⟩
  obtain ⟨hzero, hmask, halert, hmem⟩ := hsets
  refine ⟨?_, fun n hn => ?_, h.unit.offer hcases⟩
  · rw [halert, h.alert]
    simp only [State.alerting, hzero, hmask, State.slot_eq_of_slots hslots]
  · have hset : s.offer.pendingOf n.subject = s.pendingOf n.subject := by
      cases n.subject with
      | none => exact hzero
      | some i => simp only [State.pendingOf, State.slot_eq_of_slots hslots]
    rw [hset]
    exact h.pending n (hmem n hn)

theorem State.EventsSound.finish {s : State} (h : s.EventsSound) : s.finish.EventsSound := by
  unfold State.finish
  split
  · exact State.EventsSound.offer { h with }
  · exact h

end Sys2Proof.Machine
end

section
set_option Elab.async false -- few threads at a time: each takes its stack from the check's memory
/-! PROOFS. The message port (chapter 9): what an offer, an answered request, a received frame, a link reset and a restart
do to the laws of the port (R157 to R168). -/
namespace Sys2Proof.Machine

/-! ### The start of a frame (R163) -/

/-- A line on which a frame is being sent is busy. -/
theorem State.lineBusy_of_sending {s : State} (h : s.port.sending.isSome = true) : s.LineBusy := by
  intro hidle
  simp [State.lineIdle, Option.isSome_iff_ne_none.1 h] at hidle

theorem State.not_held_of_lineIdle {s : State} (h : s.lineIdle = true) : s.port.rxHeld = false := by
  simp only [State.lineIdle, Bool.and_eq_true, Bool.not_eq_true'] at h
  exact h.1.2

/-- The request whose reply waits first: it is executed, and with it gone the waiting replies are those of the other
executed requests. -/
theorem Port.Sound.answering {p : Port} (h : p.Sound) {tag : Byte} {rest : List Ready}
    (hready : p.ready = .reply tag :: rest) :
    (∃ r, p.requests.find? (·.answers tag) = some r ∧ r ∈ p.requests ∧ r.tag = tag ∧ r.reply.isSome = true) ∧
      rest.filterMap Ready.replyTag =
        ((p.requests.filter fun r => !r.answers tag).filter (·.reply.isSome)).map (·.tag) := by
  have hreplies := h.replies
  rw [hready] at hreplies
  have hfirst : (p.requests.filter (·.reply.isSome)).map (·.tag) = tag :: rest.filterMap Ready.replyTag := hreplies.symm
  have hnodup : (tag :: rest.filterMap Ready.replyTag).Nodup := by
    rw [← hfirst]
    exact h.tags.sublist (List.filter_sublist.map _)
  constructor
  · obtain ⟨r, hr, htag⟩ : ∃ r ∈ p.requests.filter (·.reply.isSome), r.tag = tag :=
      List.mem_map.1 (hfirst ▸ List.mem_cons_self)
    obtain ⟨hmem, hsome⟩ := List.mem_filter.1 hr
    obtain ⟨x, hx⟩ := Option.isSome_iff_exists.1
      (List.find?_isSome.2 ⟨r, hmem, by simp [Request.answers, htag, hsome]⟩ :
        (p.requests.find? (·.answers tag)).isSome = true)
    have hans := List.find?_some hx
    simp only [Request.answers, Bool.and_eq_true, decide_eq_true_eq] at hans
    exact ⟨x, hx, List.mem_of_find?_eq_some hx, hans.1, hans.2⟩
  · have hcomm : ((p.requests.filter fun r => !r.answers tag).filter (·.reply.isSome)).map (·.tag) =
        ((p.requests.filter (·.reply.isSome)).map (·.tag)).filter fun t => decide (t ≠ tag) := by
      rw [List.filter_map, List.filter_filter, List.filter_filter]
      refine congrArg _ (List.filter_congr fun r _ => ?_)
      cases hs : r.reply.isSome <;> simp [Request.answers, hs]
    rw [hcomm, hfirst, List.filter_cons_of_neg (by simp), List.filter_eq_self.2]
    intro t ht
    have hne : t ≠ tag := fun e => (List.nodup_cons.1 hnodup).1 (e ▸ ht)
    simpa using hne

/-- With fewer requests and waiting frames, and another frame on a line that is not held at space. -/
theorem Port.Sound.sends {p q : Port} (h : p.Sound) (hreq : q.requests.Sublist p.requests)
    (hreplies : q.ready.filterMap Ready.replyTag = (q.requests.filter (·.reply.isSome)).map (·.tag))
    (hrejects : q.rejectsHeld ≤ p.rejectsHeld) (hcredit : q.credit ≤ p.credit) (hrec : q.receiver = p.receiver)
    (hheld : q.rxHeld = false) : q.Sound where
  length := hreq.length_le.trans h.length
  tags := h.tags.sublist (hreq.map _)
  fields r hr := h.fields r (hreq.subset hr)
  order := h.order.sublist hreq
  replies := hreplies
  rejects := hrejects.trans h.rejects
  credit := hcredit.trans h.credit
  receiver := hrec ▸ h.receiver
  held hx := absurd (hheld.symm.trans hx) Bool.false_ne_true

/-- What an offer leaves: the port's laws, and nothing that may be sent on an idle line (R163). -/
theorem State.PortOpen.offer {s : State} (hsound : s.port.Sound) (hreplies : s.RestartReplies) : s.offer.PortOpen := by
  have hfree : s.lineIdle = true → s.port.rxHeld = false := State.not_held_of_lineIdle
  obtain ⟨hbusy, ho⟩ | ⟨hidle, tag, rest, hready, ho⟩ | ⟨hidle, st, tag, rest, hready, ho⟩ | ⟨hidle, hnone, -, ho⟩ |
    ⟨-, hnone, hzero, ho⟩ := s.offer_cases
  · rw [ho]
    exact ⟨hsound, hreplies, fun _ hidle => absurd (hbusy.symm.trans hidle) Bool.false_ne_true⟩
  · obtain ⟨⟨r, hfind, hmem, -, hsome⟩, hrest⟩ := hsound.answering hready
    have hstart : s.offer = { s with port := { s.port with
        ready := rest, requests := s.port.requests.filter fun r => !r.answers tag
        sending := some (.reply r.kind tag (r.reply.getD [])) } } := by
      rw [ho, Port.startReply]
      simp only [hfind]
    rw [hstart]
    refine ⟨hsound.sends List.filter_sublist hrest ?_ (Nat.le_refl _) rfl (hfree hidle), ⟨?_, ?_⟩,
      fun _ => State.lineBusy_of_sending rfl⟩
    · simp [Port.rejectsHeld, hready, Ready.isReject]
    · intro f hf hrestart
      obtain rfl := Option.some.inj hf
      obtain ⟨bytes, hbytes⟩ := Option.isSome_iff_exists.1 hsome
      simp only [TxFrame.isRestartReply, hbytes, Option.getD_some, Bool.and_eq_true, decide_eq_true_eq] at hrestart
      obtain ⟨hkind, hok⟩ := hrestart
      exact hreplies.waiting r hmem hkind (hbytes.trans (congrArg some hok))
    · exact fun r hr => hreplies.waiting r (List.mem_of_mem_filter hr)
  · have hreject : ∀ l : List Ready, (Ready.reject st tag :: l).filterMap Ready.replyTag = l.filterMap Ready.replyTag :=
      fun _ => rfl
    rw [ho]
    refine ⟨hsound.sends (List.Sublist.refl _) ?_ ?_ (Nat.le_refl _) rfl (hfree hidle), ⟨?_, ?_⟩,
      fun _ => State.lineBusy_of_sending rfl⟩
    · rw [← hreject, ← hready]
      exact hsound.replies
    · simp [Port.rejectsHeld, hready, List.countP_cons]
    · intro f hf hrestart
      obtain rfl := Option.some.inj hf
      exact absurd hrestart Bool.false_ne_true
    · exact hreplies.waiting
  · have hnotice : ∀ (e : Events) (n : NoticeFrame),
        ({ s with
          events := e
          port := { s.port with credit := s.port.credit - 1, sending := some (.notice n) } } : State).PortOpen := by
      intro e n
      refine ⟨hsound.sends (List.Sublist.refl _) hsound.replies (Nat.le_refl _) (Nat.sub_le _ 1) rfl
        (hfree hidle), ⟨?_, hreplies.waiting⟩, fun _ => State.lineBusy_of_sending rfl⟩
      intro f hf hrestart
      obtain rfl := Option.some.inj hf
      exact absurd hrestart Bool.false_ne_true
    rw [ho]
    obtain ⟨hn, hempty, hannounced⟩ | ⟨-, -, hn⟩ | ⟨n, rest, -, -, hn⟩ := s.startNotice_cases
    · rw [hn]
      exact ⟨hsound, hreplies, fun _ _ => ⟨hnone, .inr ⟨hempty, hannounced⟩⟩⟩
    · rw [hn]
      exact hnotice _ _
    · rw [hn]
      exact hnotice _ _
  · rw [ho]
    exact ⟨hsound, hreplies, fun _ _ => ⟨hnone, .inl hzero⟩⟩

theorem State.offer_offerDue (s : State) : s.offer.port.offerDue = s.port.offerDue := by
  obtain ⟨-, ho⟩ | ⟨-, tag, rest, -, ho⟩ | ⟨-, st, tag, rest, -, ho⟩ | ⟨-, -, -, ho⟩ | ⟨-, -, -, ho⟩ := s.offer_cases
  · rw [ho]
  · rw [ho]
    have hframe := congrArg Port.offerDue (({ s.port with ready := rest } : Port).startReply_frame tag)
    exact hframe
  · rw [ho]
  · rw [ho]
    obtain ⟨hn, -, -⟩ | ⟨-, -, hn⟩ | ⟨n, rest, -, -, hn⟩ := s.startNotice_cases <;> rw [hn]
  · rw [ho]

/-- The end of a happening closes the port: no offer stays due (log 10). -/
theorem State.PortOpen.finish {s : State} (h : s.PortOpen) : s.finish.PortOpen ∧ s.finish.port.offerDue = false := by
  unfold State.finish
  split
  · refine ⟨State.PortOpen.offer (s := { s with port.offerDue := false }) ?_ ⟨h.replies.sending, h.replies.waiting⟩, ?_⟩
    · exact { h.sound with }
    · exact State.offer_offerDue _
  · rename_i hdue
    exact ⟨h, Bool.eq_false_iff.2 hdue⟩

end Sys2Proof.Machine
end

section
set_option Elab.async false -- few threads at a time: each takes its stack from the check's memory
/-! PROOFS. Every operation of the part, in the midst of a happening, keeps the laws of the ranges, of the event unit and of
the port. -/
namespace Sys2Proof.Machine

/-! ### Quantities that operations compute -/

theorem forall_mem_none {α : Type} {p : α → Prop} : ∀ x ∈ (none : Option α), p x := nofun

theorem Slot.Ranges.opTicket_le {sl : Slot} (h : sl.Ranges) : sl.opTicket ≤ 65535 := by
  unfold Slot.opTicket
  split
  · rename_i o ho
    exact (h.operation o ho).2
  · exact Nat.zero_le _

/-- No timeout code stands for more than a minute (R50). -/
theorem timeoutMs_le {code t : Nat} (h : t ∈ timeoutMs code) : t ≤ 60000 := by
  unfold timeoutMs at h
  split at h <;> simp at h <;> omega

theorem settleTimer_le {ms t : Nat} (hms : ms ≤ 2000) (h : t ∈ settleTimer ms) : t ≤ 60000 := by
  unfold settleTimer at h
  split at h
  · exact absurd h (by simp)
  · obtain rfl := Option.some.inj h
    omega

theorem nextTicket_range (t : Nat) : 1 ≤ nextTicket t ∧ nextTicket t ≤ 65535 := by
  unfold nextTicket
  split <;> omega

/-- Four supplies of at most 3000.0 W give at most 12000.0 W (R1, R4, R5). -/
theorem Budget.InRange.computed_le {b : Budget} (h : b.InRange) : b.computed ≤ 120000 := by
  have hsum : goodSum b.supplies ≤ 120000 := by
    have hshares : ∀ x ∈ b.supplies.toList.map Supply.share, x ≤ 30000 := by
      rw [shares_eq_map_get]
      intro x hx
      obtain ⟨n, -, rfl⟩ := List.mem_map.1 hx
      have hcap := h.capacity n
      unfold Supply.share
      split <;> omega
    have hle := List.sum_le_card_nsmul _ _ hshares
    rw [List.length_map, Vector.length_toList] at hle
    exact hle
  unfold Budget.computed ceilingFor
  split <;> omega

/-- An effective draw is an override draw or one of the class table (R8, R9). -/
theorem State.Ranges.effectiveDraw_le {s : State} (h : s.Ranges) {i : SlotId} {draw : Nat}
    (hdraw : s.effectiveDraw i = some draw) : draw ≤ 20000 := by
  unfold State.effectiveDraw at hdraw
  split at hdraw
  · rename_i d hd
    obtain rfl := Option.some.inj hdraw
    exact (h.slots i).overrideDraw d hd
  · obtain ⟨c, -, rfl⟩ := Option.map_eq_some_iff.1 hdraw
    exact h.budget.classDraws c

/-- An entry is admitted with the effective draw of its slot (R37). -/
theorem State.effectiveDraw_of_admitted {s : State} {e : QueueEntry} {draw : Nat} (h : s.judge e = .admitted draw) :
    s.effectiveDraw e.slot = some draw := by
  unfold State.judge at h
  dsimp only at h
  split at h
  · exact absurd h (by simp)
  · split at h
    · exact absurd h (by simp)
    · split at h
      · rename_i d hd
        split at h
        · rw [hd, (Verdict.admitted.inj h)]
        · split at h <;> exact absurd h (by simp)
      · split at h <;> exact absurd h (by simp)

namespace State.KeepsLaws

section
variable {r s t : State}

/-! ### Operations and cuts (R46 to R48, R62) -/

theorem cancelHoldOff (h : r.KeepsLaws s) (i : SlotId) : r.KeepsLaws (s.cancelHoldOff i) :=
  h.upd i fun hr => { hr.slots i with holdOff := forall_mem_none }

theorem markPass (h : r.KeepsLaws s) : r.KeepsLaws s.markPass := h.withAdmission fun hr => { hr.admission with }

theorem leaveQueue (h : r.KeepsLaws s) (i : SlotId) : r.KeepsLaws (s.leaveQueue i) :=
  h.withAdmission fun hr => { hr.admission with queue := fun e he => hr.admission.queue e (List.mem_of_mem_filter he) }

theorem clearMarks (h : r.KeepsLaws s) : r.KeepsLaws s.clearMarks := by
  refine h.withAdmission fun hr => { hr.admission with queue := fun e he => ?_ }
  obtain ⟨x, hx, rfl⟩ := List.mem_map.1 he
  exact hr.admission.queue x hx

theorem advanceTicket (h : r.KeepsLaws s) : r.KeepsLaws s.advanceTicket :=
  h.frame rfl (fun _ => rfl) rfl rfl fun hr => { hr with ticketCounter := nextTicket_range _ }

theorem startOperation (h : r.KeepsLaws s) (i : SlotId) (kind : OpKind) (origin : Origin) :
    r.KeepsLaws (s.startOperation i kind origin) := by
  refine KeepsLaws.advanceTicket (h.upd i fun hr => { hr.slots i with operation := fun o ho => ?_ })
  obtain rfl := Option.some.inj ho
  exact hr.ticketCounter

theorem endOperation (h : r.KeepsLaws s) (i : SlotId) (outcome : OutcomeKind) :
    r.KeepsLaws (s.endOperation i outcome) := by
  unfold State.endOperation
  split
  · exact h
  · rename_i o ho
    refine KeepsLaws.occur (h.upd i fun hr => { hr.slots i with operation := forall_mem_none, lastOutcome := fun x hx => ?_ }) _ _
    obtain rfl := Option.some.inj hx
    exact ((hr.slots i).operation o ho).2

theorem release (h : r.KeepsLaws s) (i : SlotId) : r.KeepsLaws (s.release i) := by
  unfold State.release
  split
  · exact h
  · rename_i c _
    have haccounts := h.withAccounts
      (b := { s.budget with committed := s.budget.committed - c.amount })
      (a := { s.admission with
        inrushHeld := if c.inrush then s.admission.inrushHeld - 1 else s.admission.inrushHeld })
      (fun hb => { hb with }) fun ha => { ha with }
    exact haccounts.upd i (f := fun sl => { sl with commitment := none }) fun hr =>
      { hr.slots i with commitment := forall_mem_none }

theorem freeInrush (h : r.KeepsLaws s) (i : SlotId) : r.KeepsLaws (s.freeInrush i) := by
  unfold State.freeInrush
  split
  · exact h
  · rename_i c hc
    have hadmission := h.withAdmission
      (a := { s.admission with
        inrushHeld := if c.inrush then s.admission.inrushHeld - 1 else s.admission.inrushHeld })
      fun hr => { hr.admission with }
    refine hadmission.upd i (f := fun sl => { sl with commitment := some { c with inrush := false } }) fun hr =>
      { hr.slots i with commitment := fun x hx => ?_ }
    obtain rfl := Option.some.inj hx
    exact (hr.slots i).commitment c hc

theorem cutQuiet (h : r.KeepsLaws s) (i : SlotId) (st : PowerState) : r.KeepsLaws (s.cutQuiet i st) :=
  (h.release i).upd i fun hr => { hr.slots i with stageTimer := forall_mem_none }

theorem cut (h : r.KeepsLaws s) (i : SlotId) (st : PowerState) : r.KeepsLaws (s.cut i st) := by
  unfold State.cut
  split
  · exact (h.cutQuiet i st).markPass
  · exact h.cutQuiet i st

theorem raiseFault (h : r.KeepsLaws s) (i : SlotId) (kind : FaultKind) : r.KeepsLaws (s.raiseFault i kind) := by
  have hrecord : r.KeepsLaws (s.upd i fun sl =>
      { sl with
        lastFault := some ⟨kind, (s.slot i).power, (s.slot i).opTicket, s.part.uptime⟩
        faultCount := satInc 255 sl.faultCount }) := by
    refine h.upd i fun hr => { hr.slots i with lastFault := fun f hf => ?_, faultCount := satInc_le }
    obtain rfl := Option.some.inj hf
    exact (hr.slots i).opTicket_le
  exact (((hrecord.cut i _).endOperation i _).occur _ _).cancelHoldOff i

/-! ### The admission queue and the passes (R23, R36, R39, R122) -/

theorem joinQueue (h : r.KeepsLaws s) (i : SlotId) (origin : Origin) (mark : Bool) :
    r.KeepsLaws (s.joinQueue i origin mark) := by
  have hqueued : s.KeepsLaws
      { s.startOperation i .powerOn origin with
        admission :=
          { s.admission with
            enqueueCounter := satInc stampTop s.admission.enqueueCounter
            queue := Machine.placeEntry
              ⟨i, ((s.startOperation i .powerOn origin).slot i).priority, satInc stampTop s.admission.enqueueCounter, origin,
                s.part.ticketCounter, 0, mark⟩ s.admission.queue
            passDue := true } } := by
    have hstart := (KeepsLaws.refl s).startOperation i .powerOn origin
    refine ⟨fun hr => ?_, fun he => { hstart.events he with }, fun hp => ?_, hstart.requests⟩
    · have hr' := hstart.ranges hr
      refine { hr' with admission := { hr.admission with enqueueCounter := satInc_le, queue := fun x hx => ?_ } }
      obtain rfl | hx := (mem_placeEntry _ x _).1 hx
      · exact ⟨(hr'.slots i).priority, satInc_pos (by decide), satInc_le, hr.ticketCounter.1, hr.ticketCounter.2,
          Nat.zero_le _⟩
      · exact hr.admission.queue x hx
    · have hp' := hstart.port hp
      exact ⟨hp'.sound, { hp'.replies with }, hp'.busy⟩
  unfold State.joinQueue
  dsimp only
  refine (h.trans hqueued).upd i fun hr => ?_
  exact { hr.slots i with }

theorem autoAttempt (h : r.KeepsLaws s) (i : SlotId) : r.KeepsLaws (s.autoAttempt i) := by
  unfold State.autoAttempt
  dsimp only
  split
  · exact h.joinQueue i _ _
  · exact h

theorem enterAuxRamp (h : r.KeepsLaws s) (i : SlotId) : r.KeepsLaws (s.enterAuxRamp i) := by
  unfold State.enterAuxRamp
  dsimp only
  refine h.upd i fun hr => ?_
  exact { hr.slots i with stageTimer := fun _ => timeoutMs_le }

theorem admitSlot (h : r.KeepsLaws s) (i : SlotId) {draw : Nat} (hdraw : s.Ranges → draw ≤ 20000) :
    r.KeepsLaws (s.admitSlot i draw) := by
  let stamp := satInc stampTop s.admission.admissionCounter
  have hcommitted : s.KeepsLaws (s.upd i fun sl => { sl with commitment := some ⟨draw, stamp, true⟩ }) := by
    refine (KeepsLaws.refl s).upd i fun hr => { hr.slots i with commitment := fun c hc => ?_ }
    obtain rfl := Option.some.inj hc
    exact ⟨hdraw hr, satInc_le⟩
  have haccounts := hcommitted.withAccounts
    (b := { s.budget with committed := s.budget.committed + draw })
    (a := { s.admission with admissionCounter := stamp, inrushHeld := s.admission.inrushHeld + 1 })
    (fun hb => { hb with }) fun ha => { ha with admissionCounter := satInc_le }
  exact KeepsLaws.enterAuxRamp (h.trans haccounts) i

end

end State.KeepsLaws

end Sys2Proof.Machine
end

section
set_option Elab.async false -- few threads at a time: each takes its stack from the check's memory
/-! PROOFS. Every happening of the budget, of admission, of a stage, of a drain, of a fault, of the bay and of a lock keeps
the laws of the ranges, of the event unit and of the port. -/
namespace Sys2Proof.Machine

/-- The entries that a pass leaves in the queue are entries it was given, with a bypass count that stays within 15
(R38). -/
theorem passWalk_kept_inRange {q : List QueueEntry} (hq : ∀ e ∈ q, e.InRange) (s : State) :
    ∀ e ∈ (passWalk q s).2.1, e.InRange := by
  induction q generalizing s with
  | nil => exact hq
  | cons x rest ih =>
    obtain ⟨hx, hrest⟩ := List.forall_mem_cons.1 hq
    unfold passWalk
    split
    · exact List.forall_mem_cons.2 ⟨hx, ih hrest s⟩
    · exact hq
    · exact ih hrest _
    · refine List.forall_mem_cons.2 ⟨?_, ih hrest s⟩
      split
      · obtain ⟨hpriority, hstamp, hstamp', hticket, hticket', -⟩ := hx
        exact ⟨hpriority, hstamp, hstamp', hticket, hticket', satInc_le⟩
      · exact hx

namespace State.KeepsLaws

section
variable {r s t : State}

/-! ### The pass (R36, R37) -/

theorem passWalk_fst (q : List QueueEntry) {r s : State} (h : r.KeepsLaws s) : r.KeepsLaws (passWalk q s).1 := by
  induction q generalizing s with
  | nil => exact h
  | cons e rest ih =>
    unfold passWalk
    split
    · exact ih h
    · exact h
    · rename_i draw hdraw
      exact ih (h.admitSlot e.slot fun hr => hr.effectiveDraw_le (State.effectiveDraw_of_admitted hdraw))
    · exact ih h

theorem pass (h : r.KeepsLaws s) : r.KeepsLaws s.pass := by
  have hmark := h.withAdmission (a := { s.admission with passDue := false }) fun hr => { hr.admission with }
  have hwalk := passWalk_fst s.admission.queue (KeepsLaws.refl { s with admission.passDue := false })
  refine hmark.trans ⟨fun hr => ?_, fun he => { hwalk.events he with }, fun hp => ?_, hwalk.requests⟩
  · exact { hwalk.ranges hr with
      admission := { (hwalk.ranges hr).admission with queue := passWalk_kept_inRange hr.admission.queue _ } }
  · exact ⟨(hwalk.port hp).sound, { (hwalk.port hp).replies with }, (hwalk.port hp).busy⟩

/-! ### Stages, drains and lock operations (R55 to R73, R124, R126) -/

theorem endAuxRamp (h : r.KeepsLaws s) (i : SlotId) (byDueEnd : Bool) : r.KeepsLaws (s.endAuxRamp i byDueEnd) := by
  unfold State.endAuxRamp
  dsimp only
  refine h.upd i fun hr => ?_
  exact { hr.slots i with stageTimer := fun _ => timeoutMs_le }

theorem endMainRamp (h : r.KeepsLaws s) (i : SlotId) (byDueEnd : Bool) : r.KeepsLaws (s.endMainRamp i byDueEnd) := by
  unfold State.endMainRamp
  dsimp only
  refine h.upd i fun hr => ?_
  obtain ⟨-, -, hsettle, -, -⟩ := hr.profiles (s.slot i).profileIndex
  exact { hr.slots i with stageTimer := fun _ => settleTimer_le hsettle }

theorem reachOn (h : r.KeepsLaws s) (i : SlotId) (readyRequired : Bool) : r.KeepsLaws (s.reachOn i readyRequired) := by
  unfold State.reachOn
  refine KeepsLaws.endOperation (h.upd i fun hr => ?_) i _
  exact { hr.slots i with stageTimer := forall_mem_none }

theorem endSettle (h : r.KeepsLaws s) (i : SlotId) : r.KeepsLaws (s.endSettle i) := by
  have hfreed := (h.freeInrush i).markPass
  unfold State.endSettle
  dsimp only
  split
  · refine hfreed.upd i fun hr => ?_
    exact { hr.slots i with stageTimer := fun _ => timeoutMs_le }
  · exact hfreed.reachOn i _

theorem endReadyWait (h : r.KeepsLaws s) (i : SlotId) : r.KeepsLaws (s.endReadyWait i) := h.reachOn i _

theorem enterDrain (h : r.KeepsLaws s) (i : SlotId) : r.KeepsLaws (s.enterDrain i) := by
  unfold State.enterDrain
  dsimp only
  refine h.upd i fun hr => ?_
  exact { hr.slots i with stageTimer := fun _ => timeoutMs_le }

theorem endDrain (h : r.KeepsLaws s) (i : SlotId) (outcome : OutcomeKind) : r.KeepsLaws (s.endDrain i outcome) :=
  (h.cut i _).endOperation i _

/-- A record that takes another power state. -/
theorem setPower (h : r.KeepsLaws s) (i : SlotId) (st : PowerState) :
    r.KeepsLaws (s.upd i fun sl => { sl with power := st }) :=
  h.upd i fun hr => { hr.slots i with }

theorem powerOffAction_fst (h : r.KeepsLaws s) (i : SlotId) (force : Bool) (origin : Origin) :
    r.KeepsLaws (s.powerOffAction i force origin).1 := by
  unfold State.powerOffAction
  dsimp only
  cases (s.slot i).power with
  | vacant | idle | faulted => exact h
  | waiting => exact ((h.leaveQueue i).endOperation i _).setPower i _
  | auxRamp | mainRamp | settle | readyWait => exact (h.cut i _).endOperation i _
  | on =>
    cases force with
    | true => exact ((h.startOperation i _ _).cut i _).endOperation i _
    | false => exact (h.startOperation i _ _).enterDrain i
  | drain =>
    cases force with
    | true => exact h.endDrain i _
    | false => exact h

theorem endLock (h : r.KeepsLaws s) (i : SlotId) (outcome : OutcomeKind) : r.KeepsLaws (s.endLock i outcome) :=
  KeepsLaws.endOperation (h.upd i fun hr => { hr.slots i with lockTimer := forall_mem_none }) i _

theorem lockDone (h : r.KeepsLaws s) (i : SlotId) (kind : OpKind) : r.KeepsLaws (s.lockDone i kind) := by
  unfold State.lockDone
  dsimp only
  split
  · exact (h.endLock i _).autoAttempt i
  · exact h.endLock i _

/-! ### The ceiling and shedding (R6, R75) -/

theorem shedVictim (h : r.KeepsLaws s) (i : SlotId) : r.KeepsLaws (s.shedVictim i) := by
  have hshed := ((h.cut i .idle).endOperation i .shed).occur (some i) .shed
  unfold State.shedVictim
  dsimp only
  split
  · exact hshed.joinQueue i _ _
  · exact hshed

theorem shedLoop (n : Nat) {r s : State} (h : r.KeepsLaws s) : r.KeepsLaws (s.shedLoop n) := by
  induction n generalizing s with
  | zero => exact h
  | succ n ih =>
    by_cases hcovered : s.budget.committed ≤ s.budget.ceiling
    · rw [State.shedLoop_of_committed_le hcovered]
      exact h
    · rw [State.shedLoop_succ_of_over hcovered]
      cases s.victim with
      | none => exact h
      | some i => exact ih (h.shedVictim i)

theorem recompute (h : r.KeepsLaws s) : r.KeepsLaws s.recompute := by
  have hceiling := (h.withBudget (b := { s.budget with ceiling := s.budget.computed })
    fun hb => { hb with ceiling := hb.computed_le }).occur none .ceiling
  unfold State.recompute
  dsimp only
  split
  · exact h
  · split
    · exact hceiling.clearMarks.markPass
    · exact shedLoop 24 hceiling

/-- One supply record changes, its capacity staying in range. -/
theorem withSupply (h : r.KeepsLaws s) (n : SupplyId) {p : Supply}
    (hp : (s.budget.supplies.get n).capacity ≤ 30000 → p.capacity ≤ 30000) :
    r.KeepsLaws { s with budget := { s.budget with supplies := s.budget.supplies.set n.val p n.isLt } } := by
  refine h.withBudget fun hb => { hb with capacity := fun m => ?_ }
  show ((s.budget.supplies.set n.val p n.isLt)[m.val]).capacity ≤ 30000
  rw [Vector.getElem_set]
  split
  · exact hp (hb.capacity n)
  · exact hb.capacity m

theorem supplyChange (h : r.KeepsLaws s) (n : SupplyId) (good : Bool) : r.KeepsLaws (s.supplyChange n good) :=
  ((h.withSupply n (p := (s.budget.supplies.get n).changed good s.part.uptime) id).occur none .supply).recompute

/-! ### The bay (chapter 6) -/

theorem moduleArrives (h : r.KeepsLaws s) (i : SlotId) : r.KeepsLaws (s.moduleArrives i) :=
  (KeepsLaws.occur (h.upd i fun hr => { hr.slots i with }) _ _).autoAttempt i

theorem inserted (h : r.KeepsLaws s) (i : SlotId) : r.KeepsLaws (s.inserted i) := by
  unfold State.inserted
  cases (s.slot i).power with
  | vacant => exact h.moduleArrives i
  | faulted => exact KeepsLaws.occur (h.upd i fun hr => { hr.slots i with }) _ _
  | idle | waiting | auxRamp | mainRamp | settle | readyWait | on | drain => exact h

theorem insertion (h : r.KeepsLaws s) (i : SlotId) (class0 class1 : Bool) :
    r.KeepsLaws (s.insertion i class0 class1) := by
  have hlines := h.updLines i fun l => { l with present := .take true, class0 := class0, class1 := class1 }
  unfold State.insertion
  dsimp only
  split
  · exact hlines.inserted i
  · exact hlines

theorem vacate (h : r.KeepsLaws s) (i : SlotId) : r.KeepsLaws (s.upd i Slot.vacated) :=
  h.upd i fun hr => { hr.slots i with }

theorem dropClass (h : r.KeepsLaws s) (i : SlotId) : r.KeepsLaws (s.dropClass i) :=
  h.upd i fun hr => { hr.slots i with }

theorem tolerantRemoval (h : r.KeepsLaws s) (i : SlotId) : r.KeepsLaws (s.tolerantRemoval i) :=
  ((((h.cancelHoldOff i).cut i _).endOperation i _).vacate i).occur _ _

theorem removedLive (h : r.KeepsLaws s) (i : SlotId) : r.KeepsLaws (s.removedLive i) :=
  ((h.raiseFault i _).dropClass i).occur _ _

/-- The removal of a powered module, surprise-tolerant or not (R113). -/
theorem poweredRemoval (h : r.KeepsLaws s) (i : SlotId) (c : Prop) [Decidable c] :
    r.KeepsLaws (if c then s.tolerantRemoval i else s.removedLive i) := by
  split
  · exact h.tolerantRemoval i
  · exact h.removedLive i

theorem removed (h : r.KeepsLaws s) (i : SlotId) : r.KeepsLaws (s.removed i) := by
  unfold State.removed
  cases (s.slot i).power with
  | idle => exact ((h.cancelHoldOff i).vacate i).occur _ _
  | waiting => exact ((((h.cancelHoldOff i).leaveQueue i).endOperation i _).vacate i).occur _ _
  | faulted => exact (h.dropClass i).occur _ _
  | vacant => exact h.dropClass i
  | auxRamp | mainRamp | settle | readyWait | on | drain => exact h.poweredRemoval i _

theorem removal (h : r.KeepsLaws s) (i : SlotId) : r.KeepsLaws (s.removal i) := by
  have hlines := h.updLines i fun l => { l with present := .take false }
  unfold State.removal
  dsimp only
  split
  · exact hlines.removed i
  · exact hlines

theorem leverOpened (h : r.KeepsLaws s) (i : SlotId) : r.KeepsLaws (s.leverOpened i) := by
  unfold State.leverOpened
  dsimp only
  split
  · exact h.raiseFault i _
  · split
    · exact h.endLock i _
    · exact h

/-- What follows a line that may have seated the slot: the pass-due mark, or the auto-start attempt (R29, R122). -/
theorem markPass_or_autoAttempt (h : r.KeepsLaws s) (i : SlotId) (c : Prop) [Decidable c] :
    r.KeepsLaws (if c then s.markPass else s.autoAttempt i) := by
  split
  · exact h.markPass
  · exact h.autoAttempt i

theorem leverChange (h : r.KeepsLaws s) (i : SlotId) (closed : Bool) : r.KeepsLaws (s.leverChange i closed) := by
  have hlines := h.updLines i fun l => { l with lever := .take closed }
  unfold State.leverChange
  dsimp only
  split
  · exact hlines
  · split
    · exact (hlines.occur _ _).markPass_or_autoAttempt i _
    · exact (hlines.leverOpened i).occur _ _

/-- A window that opens runs for the part's hold-off time, at most 15 s (R117). -/
theorem togglePress (h : r.KeepsLaws s) (i : SlotId) : r.KeepsLaws (s.togglePress i) := by
  have htoggled : r.KeepsLaws (s.upd i fun sl =>
      { sl with holdOff := if sl.holdOff.isSome then none else some (s.holdOffTime * 1000) }) := by
    refine h.upd i fun hr => { hr.slots i with holdOff := fun t ht => ?_ }
    dsimp only at ht
    split at ht
    · exact absurd ht (Option.not_mem_none t)
    · obtain rfl := Option.some.inj ht
      have hseconds := hr.holdOffTime.2
      omega
  unfold State.togglePress
  cases (s.slot i).power with
  | vacant | faulted => exact h
  | idle | waiting | auxRamp | mainRamp | settle | readyWait | on | drain => exact htoggled

theorem buttonPress (h : r.KeepsLaws s) (i : SlotId) : r.KeepsLaws (s.buttonPress i) := by
  have hlines := h.updLines i fun l => { l with button := .take true }
  unfold State.buttonPress
  dsimp only
  split
  · exact hlines
  · split
    · exact hlines.occur _ _
    · exact (hlines.occur _ _).togglePress i

theorem refuseButton (h : r.KeepsLaws s) (i : SlotId) (st : Status) : r.KeepsLaws (s.refuseButton i st) := by
  refine KeepsLaws.occur (h.upd i fun hr => { hr.slots i with lastOutcome := fun o ho => ?_ }) _ _
  obtain rfl := Option.some.inj ho
  exact Nat.zero_le _

theorem windowExpires (h : r.KeepsLaws s) (i : SlotId) : r.KeepsLaws (s.windowExpires i) := by
  have hcancelled := h.cancelHoldOff i
  unfold State.windowExpires
  dsimp only
  cases (s.slot i).power with
  | idle =>
    dsimp only
    split
    · exact hcancelled.joinQueue i _ _
    · exact hcancelled.refuseButton i _
  | waiting | auxRamp | mainRamp | settle | readyWait | on => exact hcancelled.powerOffAction_fst i _ _
  | drain | vacant | faulted => exact hcancelled

theorem lockMoved (h : r.KeepsLaws s) (i : SlotId) (engaged : Bool) : r.KeepsLaws (s.lockMoved i engaged) := by
  unfold State.lockMoved
  dsimp only
  split
  · exact h.occur _ _
  · exact (h.occur _ _).markPass_or_autoAttempt i _

theorem lockSenseChange (h : r.KeepsLaws s) (i : SlotId) (engaged : Bool) :
    r.KeepsLaws (s.lockSenseChange i engaged) := by
  have hlines := h.updLines i fun l => { l with lockSense := .take engaged }
  unfold State.lockSenseChange
  dsimp only
  split
  · exact hlines
  · split
    · split
      · exact hlines.lockDone i _
      · exact hlines
    · exact hlines.lockMoved i engaged

theorem dueLockEnd (h : r.KeepsLaws s) (i : SlotId) : r.KeepsLaws (s.dueLockEnd i) := by
  have htaken := h.upd i (f := fun sl => { sl with lockEndDue := none }) fun hr =>
    { hr.slots i with lockEndDue := forall_mem_none }
  unfold State.dueLockEnd
  dsimp only
  split
  · split
    · exact htaken.lockDone i _
    · exact htaken
  · exact htaken

/-! ### The sequencers and the fault monitors (chapters 3 and 5) -/

theorem auxGoodRise (h : r.KeepsLaws s) (i : SlotId) : r.KeepsLaws (s.auxGoodRise i) := by
  have hlines : r.KeepsLaws (s.takeAuxGood i true) := h.updLines i _
  unfold State.auxGoodRise
  dsimp only
  split
  · exact hlines.endAuxRamp i _
  · exact hlines

theorem mainGoodRise (h : r.KeepsLaws s) (i : SlotId) : r.KeepsLaws (s.mainGoodRise i) := by
  have hlines : r.KeepsLaws (s.takeMainGood i true) := h.updLines i _
  unfold State.mainGoodRise
  dsimp only
  split
  · exact hlines.endMainRamp i _
  · exact hlines

theorem readyRise (h : r.KeepsLaws s) (i : SlotId) : r.KeepsLaws (s.readyRise i) := by
  have hlines : r.KeepsLaws (s.takeReady i true) := h.updLines i _
  unfold State.readyRise
  dsimp only
  split
  · exact hlines.endReadyWait i
  · exact hlines

theorem stageEnd (h : r.KeepsLaws s) (i : SlotId) : r.KeepsLaws (s.stageEnd i) := by
  unfold State.stageEnd
  cases (s.slot i).power with
  | auxRamp => exact h.endAuxRamp i _
  | mainRamp => exact h.endMainRamp i _
  | settle => exact h.endSettle i
  | readyWait => exact h.endReadyWait i
  | vacant | idle | waiting | on | drain | faulted => exact h

theorem deadlineExpiry (h : r.KeepsLaws s) (i : SlotId) : r.KeepsLaws (s.deadlineExpiry i) := by
  unfold State.deadlineExpiry
  split
  · exact h.raiseFault i _
  · exact h

theorem readyFall (h : r.KeepsLaws s) (i : SlotId) : r.KeepsLaws (s.readyFall i) := by
  have hlines : r.KeepsLaws (s.takeReady i false) := h.updLines i _
  unfold State.readyFall
  dsimp only
  split
  · exact hlines.endDrain i _
  · exact hlines

/-- A fault that a condition decides on. -/
theorem raiseFault_if (h : r.KeepsLaws s) (i : SlotId) (kind : FaultKind) (c : Prop) [Decidable c] :
    r.KeepsLaws (if c then s.raiseFault i kind else s) := by
  split
  · exact h.raiseFault i kind
  · exact h

theorem faultLineRise (h : r.KeepsLaws s) (i : SlotId) : r.KeepsLaws (s.faultLineRise i) :=
  raiseFault_if (h.updLines i _) i _ _

theorem dueOvercurrent (h : r.KeepsLaws s) (i : SlotId) : r.KeepsLaws (s.dueOvercurrent i) :=
  raiseFault_if (h.upd i fun hr => { hr.slots i with }) i _ _

theorem railFall (h : r.KeepsLaws s) (i : SlotId) (rail : Rail) : r.KeepsLaws (s.railFall i rail) := by
  have hlines : r.KeepsLaws (s.takeRailDown i rail) := by
    cases rail with
    | aux => exact h.updLines i fun l => { l with auxGood := .take false }
    | main => exact h.updLines i fun l => { l with mainGood := .take false }
  exact hlines.raiseFault_if i _ _

theorem dueRailLost (h : r.KeepsLaws s) (i : SlotId) (rail : Rail) : r.KeepsLaws (s.dueRailLost i rail) := by
  have htaken : r.KeepsLaws (s.upd i fun sl => sl.withoutRailLost rail) := by
    cases rail with
    | aux => exact h.upd i fun hr => { hr.slots i with }
    | main => exact h.upd i fun hr => { hr.slots i with }
  exact htaken.raiseFault_if i _ _

end

end State.KeepsLaws

end Sys2Proof.Machine
end

section
set_option Elab.async false -- few threads at a time: each takes its stack from the check's memory
/-! PROOFS. Every request body keeps the laws of the ranges, of the event unit and of the port, up to the reply that the
execution then makes ready (chapters 8 and 10, R162). -/
namespace Sys2Proof.Machine

/-! ### Events withdrawn (R142, R146) -/

theorem State.pendingOf_setPending_ne (s : State) {who w : Option SlotId} (set : Word16) (h : w ≠ who) :
    (s.setPending who set).pendingOf w = s.pendingOf w := by
  cases who with
  | none =>
    cases w with
    | none => exact absurd rfl h
    | some j => rfl
  | some i =>
    cases w with
    | none => rfl
    | some j =>
      have hj : j ≠ i := fun e => h (by rw [e])
      simp [State.setPending, State.pendingOf, hj]

theorem State.setPending_notices (s : State) (who : Option SlotId) (set : Word16) :
    (s.setPending who set).events.notices = s.events.notices := by
  cases who <;> rfl

/-- Fewer notices, the rest of the unit kept but for its sets and ALERT. -/
theorem Events.Sound.withdraw {e e' : Events} (h : e.Sound) (p : Notice → Bool)
    (he : e' = { e with notices := e.notices.filter p, pendingZero := e'.pendingZero, alert := e'.alert }) :
    e'.Sound := by
  rw [he]
  exact { h with
    length := (List.filter_sublist.length_le).trans h.length
    apart := h.apart.sublist List.filter_sublist
    count := fun n hn => h.count n (List.mem_of_mem_filter hn) }

theorem State.Ranges.setPending {s : State} (h : s.Ranges) (who : Option SlotId) (set : Word16) :
    (s.setPending who set).Ranges := by
  cases who with
  | none => exact { h with }
  | some i =>
    refine { h with slots := fun j => ?_ }
    by_cases hj : j = i
    · subst hj
      rw [State.setPending, State.slot_upd_same]
      exact { h.slots j with }
    · rw [State.setPending, State.slot_upd_ne _ _ hj]
      exact h.slots j

namespace State.KeepsLaws

section
variable {r s t : State}

/-- A change of the event unit that gives it nothing more to send. -/
theorem quieter (h : r.KeepsLaws s) (hranges : s.Ranges → t.Ranges) (hevents : s.EventsSound → t.EventsSound)
    (hsilent : s.events.Silent → t.events.Silent) (hport : t.port = s.port)
    (hask : t.part.restartAsk = s.part.restartAsk) : r.KeepsLaws t :=
  h.trans ⟨hranges, hevents, fun hp => hp.congr (by rw [hport]) hask fun hdue => ⟨hport ▸ hdue, hsilent⟩, by rw [hport]⟩

/-- A pending set takes a value, the notices that stay being for kinds that are still pending, and ALERT is recomputed. -/
theorem withdraw (h : r.KeepsLaws s) (who : Option SlotId) (set : Word16) (p : Notice → Bool)
    (hp : ∀ n : Notice, p n = true → n.subject = who → hasKind (s.pendingOf who) n.kind = true →
      hasKind set n.kind = true) :
    r.KeepsLaws
      ({ s.setPending who set with
          events := { (s.setPending who set).events with
            notices := (s.setPending who set).events.notices.filter p } } : State).realert := by
  have hport : (s.setPending who set).port = s.port := by cases who <;> rfl
  have hask : (s.setPending who set).part.restartAsk = s.part.restartAsk := by cases who <;> rfl
  refine h.quieter (fun hr => { hr.setPending who set with }) (fun he => ⟨rfl, fun n hn => ?_, ?_⟩) (fun hs => ?_)
    hport hask
  · obtain ⟨hmem, hkept⟩ := List.mem_filter.1 hn
    rw [State.setPending_notices] at hmem
    show hasKind ((s.setPending who set).pendingOf n.subject) n.kind = true
    by_cases hw : n.subject = who
    · rw [hw, State.pendingOf_setPending_same]
      exact hp n hkept hw (hw ▸ he.pending n hmem)
    · rw [State.pendingOf_setPending_ne s set hw]
      exact he.pending n hmem
  · refine he.unit.withdraw p ?_
    cases who <;> rfl
  · obtain ⟨hnone, hannounced⟩ := hs
    refine ⟨?_, ?_⟩
    · show (s.setPending who set).events.notices.filter p = []
      rw [State.setPending_notices, hnone, List.filter_nil]
    · cases who <;> exact hannounced

theorem acknowledge (h : r.KeepsLaws s) (who : Option SlotId) (kinds : Word16) :
    r.KeepsLaws (s.acknowledge who kinds) := by
  refine h.withdraw who _ (fun n => !(decide (n.subject = who) && hasKind kinds n.kind)) fun n hn hwho hkind => ?_
  rw [hwho, decide_eq_true rfl, Bool.true_and, Bool.not_eq_true', hasKind_eq_getLsbD] at hn
  have hlt : n.kind.code - 1 < 16 := by cases n.kind <;> decide
  rw [hasKind_eq_getLsbD] at hkind ⊢
  rw [BitVec.getLsbD_and, BitVec.getLsbD_not, hkind, hn, decide_eq_true hlt]
  rfl

theorem emptyEvents (h : r.KeepsLaws s) (i : SlotId) : r.KeepsLaws (s.emptyEvents i) :=
  h.withdraw (some i) 0 (fun n => decide (n.subject ≠ some i)) fun _ hn hwho => absurd hwho (of_decide_eq_true hn)

end

end State.KeepsLaws

/-! ### What a request body leaves -/

/-- From `s` to `t`, the state that a request body leaves, the laws are kept but for the line, which the reply then is
offered to (R162, R163). -/
structure State.CarriesOut (s t : State) : Prop where
  ranges : s.Ranges → t.Ranges
  events : s.EventsSound → t.EventsSound
  sound : s.PortOpen → s.port.rxHeld = false → t.port.Sound
  replies : s.PortOpen → t.RestartReplies
  requests : t.port.requests = s.port.requests

theorem State.KeepsLaws.carriesOut {s t : State} (h : s.KeepsLaws t) : s.CarriesOut t :=
  ⟨h.ranges, h.events, fun hp _ => (h.port hp).sound, fun hp => (h.port hp).replies, h.requests⟩

/-- A body that changes nothing. -/
theorem State.CarriesOut.refl (s : State) : s.CarriesOut s := (State.KeepsLaws.refl s).carriesOut

/-- A body that writes the port alone: its counters or its credit. -/
theorem State.CarriesOut.withPort {s : State} {p : Port} (hranges : s.port.InRange → p.InRange)
    (hsound : s.port.Sound → s.port.rxHeld = false → p.Sound) (hsending : p.sending = s.port.sending)
    (hrequests : p.requests = s.port.requests) : s.CarriesOut { s with port := p } where
  ranges hr := { hr with port := hranges hr.port }
  events he := { he with }
  sound hp hfree := hsound hp.sound hfree
  replies hp := ⟨hsending ▸ hp.replies.sending, hrequests ▸ hp.replies.waiting⟩
  requests := hrequests

/-! ### The requests of the port, of the events and of the part -/

theorem identifyRequest_carriesOut (payload : List Byte) (s : State) : s.CarriesOut (identifyRequest payload s).1 := by
  unfold identifyRequest
  split <;> exact .refl s

/-- A request waits only on a line that is not held at space, so the credit may rise (R151, R164). -/
theorem grantRequest_carriesOut (payload : List Byte) (s : State) : s.CarriesOut (grantRequest payload s).1 := by
  unfold grantRequest
  split
  · refine .withPort (fun hr => { hr with }) (fun hs hfree => ?_) rfl rfl
    exact { hs with
      credit := Nat.min_le_left _ _
      held := fun hheld => absurd (hfree.symm.trans hheld) Bool.false_ne_true }
  · exact .refl s

theorem readLinkRequest_carriesOut (payload : List Byte) (s : State) :
    s.CarriesOut (readLinkRequest payload s).1 := by
  have hzero : ∀ {n : Nat}, 0 ≤ n := Nat.zero_le _
  unfold readLinkRequest
  split
  · split
    · exact .refl s
    · dsimp only
      split
      · exact .withPort (fun hr => ⟨hr.linkRate, hr.gap, hzero, hzero, hzero, hzero, hzero⟩) (fun hs _ => { hs with })
          rfl rfl
      · exact .refl s
  · exact .refl s

/-- The masks take their values and ALERT follows the alert mask (R149). -/
theorem setNoticesRequest_carriesOut (payload : List Byte) (s : State) :
    s.CarriesOut (setNoticesRequest payload s).1 := by
  unfold setNoticesRequest
  split
  · dsimp only
    split
    · refine State.KeepsLaws.carriesOut ?_
      exact (State.KeepsLaws.refl s).quieter (fun hr => { hr with })
        (fun he => ⟨rfl, he.pending, { he.unit with }⟩) id rfl rfl
    · exact .refl s
  · exact .refl s

theorem readSlotRequest_carriesOut (payload : List Byte) (s : State) :
    s.CarriesOut (readSlotRequest payload s).1 := by
  unfold readSlotRequest
  split
  · split <;> exact .refl s
  · exact .refl s

theorem readQueueRequest_carriesOut (payload : List Byte) (s : State) :
    s.CarriesOut (readQueueRequest payload s).1 := by
  unfold readQueueRequest
  split <;> exact .refl s

theorem readBudgetRequest_carriesOut (payload : List Byte) (s : State) :
    s.CarriesOut (readBudgetRequest payload s).1 := by
  unfold readBudgetRequest
  split <;> exact .refl s

/-- The end of an overflow episode (R145). -/
theorem Events.Sound.endEpisode {e : Events} (h : e.Sound) : e.endEpisode.Sound :=
  { h with
    lost := by simp [Events.endEpisode], stamp := by simp [Events.endEpisode]
    announced := fun hann => absurd hann Bool.false_ne_true, lostCount := Nat.zero_le _ }

theorem readEventsRequest_carriesOut (payload : List Byte) (s : State) :
    s.CarriesOut (readEventsRequest payload s).1 := by
  unfold readEventsRequest
  split
  · split
    · refine State.KeepsLaws.carriesOut ?_
      exact (State.KeepsLaws.refl s).quieter (fun hr => { hr with })
        (fun he => ⟨he.alert, he.pending, he.unit.endEpisode⟩)
        (fun hsilent => ⟨hsilent.1, fun hover => absurd hover Bool.false_ne_true⟩) rfl rfl
    · split
      · exact .refl s
      · split <;> exact .refl s
  · exact .refl s

theorem ackEventsRequest_carriesOut (payload : List Byte) (s : State) :
    s.CarriesOut (ackEventsRequest payload s).1 := by
  unfold ackEventsRequest
  split
  · split
    · exact .refl s
    · dsimp only
      split
      · exact ((State.KeepsLaws.refl s).acknowledge _ _).carriesOut
      · exact .refl s
  · exact .refl s

theorem readProfileRequest_carriesOut (payload : List Byte) (s : State) :
    s.CarriesOut (readProfileRequest payload s).1 := by
  unfold readProfileRequest
  split
  · split <;> exact .refl s
  · exact .refl s

theorem freezeRequest_carriesOut (payload : List Byte) (s : State) : s.CarriesOut (freezeRequest payload s).1 := by
  unfold freezeRequest
  split
  · split
    · exact .refl s
    · refine State.KeepsLaws.carriesOut ?_
      exact (State.KeepsLaws.refl s).frame rfl (fun _ => rfl) rfl rfl fun hr => { hr with }
  · exact .refl s

/-- A restart asked for may have its OK reply waiting (R162, R175). -/
theorem restartRequest_carriesOut (payload : List Byte) (s : State) : s.CarriesOut (restartRequest payload s).1 := by
  unfold restartRequest
  split
  · split
    · exact .refl s
    · exact ⟨fun hr => { hr with }, fun he => { he with }, fun hp _ => hp.sound,
        fun _ => ⟨fun _ _ _ => RestartAsk.noConfusion, fun _ _ _ _ => RestartAsk.noConfusion⟩, rfl⟩
  · exact .refl s

/-! ### The requests that act on one slot -/

theorem powerOnRequest_carriesOut (payload : List Byte) (s : State) : s.CarriesOut (powerOnRequest payload s).1 := by
  have hpassed : ∀ i, s.KeepsLaws ((s.cancelHoldOff i).powerOnPassed i).1 := by
    intro i
    have hcancelled := (State.KeepsLaws.refl s).cancelHoldOff i
    unfold State.powerOnPassed
    dsimp only
    cases ((s.cancelHoldOff i).slot i).power with
    | idle => exact hcancelled.joinQueue i _ _
    | waiting | auxRamp | mainRamp | settle | readyWait | on | drain | vacant | faulted => exact hcancelled
  unfold powerOnRequest
  split
  · split
    · exact .refl s
    · dsimp only
      split
      · exact ((State.KeepsLaws.refl s).cancelHoldOff _).carriesOut
      · exact (hpassed _).carriesOut
  · exact .refl s

theorem powerOffRequest_carriesOut (payload : List Byte) (s : State) : s.CarriesOut (powerOffRequest payload s).1 := by
  unfold powerOffRequest
  split
  · split
    · exact .refl s
    · dsimp only
      split
      · exact ((State.KeepsLaws.refl s).cancelHoldOff _).carriesOut
      · exact (((State.KeepsLaws.refl s).cancelHoldOff _).powerOffAction_fst _ _ _).carriesOut
  · exact .refl s

/-- A fault count is kept or cleared (R103). -/
theorem Slot.Ranges.clearedFault {sl : Slot} (h : sl.Ranges) (clearCount : Bool) :
    (sl.clearedFault clearCount).Ranges := by
  refine { h with faultCount := ?_ }
  unfold Slot.clearedFault
  dsimp only
  split
  · exact Nat.zero_le _
  · exact h.faultCount

theorem clearFaultRequest_carriesOut (payload : List Byte) (s : State) :
    s.CarriesOut (clearFaultRequest payload s).1 := by
  unfold clearFaultRequest
  split
  · split
    · exact .refl s
    · split
      · exact .refl s
      · rename_i i _ _ clearCount _
        exact State.KeepsLaws.carriesOut
          ((State.KeepsLaws.refl s).upd i (f := fun sl => sl.clearedFault clearCount)
            fun hr => (hr.slots i).clearedFault clearCount)
  · exact .refl s

/-- The due end of a lock operation carries the ticket just given (R47, R124). -/
theorem State.KeepsLaws.startLock {r s : State} (h : r.KeepsLaws s) (i : SlotId) (kind : OpKind) :
    r.KeepsLaws (s.startLock i kind) := by
  have hop : ((s.startOperation i kind .host).slot i).operation =
      some ⟨kind, s.part.ticketCounter, .host, s.part.uptime⟩ := by simp [State.startOperation]
  unfold State.startLock
  refine State.KeepsLaws.upd (h.startOperation i kind .host) i fun hr => { hr.slots i with
    lockTimer := fun t ht => (Option.some.inj ht).ge, lockEndDue := fun t ht => ?_ }
  dsimp only at ht
  split at ht
  · obtain rfl := Option.some.inj ht
    exact (hr.slots i).operation _ hop
  · exact (hr.slots i).lockEndDue t ht

theorem lockRequest_carriesOut (kind : OpKind) (payload : List Byte) (s : State) :
    s.CarriesOut (lockRequest kind payload s).1 := by
  unfold lockRequest
  split
  · split
    · exact .refl s
    · split
      · exact .refl s
      · exact ((State.KeepsLaws.refl s).startLock _ _).carriesOut
  · exact .refl s

theorem setIndicatorRequest_carriesOut (payload : List Byte) (s : State) :
    s.CarriesOut (setIndicatorRequest payload s).1 := by
  unfold setIndicatorRequest
  split
  · split
    · exact .refl s
    · split
      · exact .refl s
      · rename_i i _ _ lamps _
        exact State.KeepsLaws.carriesOut
          ((State.KeepsLaws.refl s).upd i (f := fun sl => { sl with lamps := lamps }) fun hr => { hr.slots i with })
  · exact .refl s

/-- The entry moved keeps its ticket and takes a priority and a stamp in range (R27). -/
theorem State.KeepsLaws.moveEntry {r s : State} (h : r.KeepsLaws s) (i : SlotId) {priority : Nat}
    (hpriority : priority ≤ 7) : r.KeepsLaws (s.moveEntry i priority) := by
  unfold State.moveEntry
  split
  · exact h
  · rename_i e hfind
    refine h.withAdmission fun hr => { hr.admission with enqueueCounter := satInc_le, queue := fun x hx => ?_ }
    obtain rfl | hx := (mem_placeEntry _ x _).1 hx
    · obtain ⟨-, -, -, hticket, hticket', -⟩ := hr.admission.queue e (List.mem_of_find?_eq_some hfind)
      exact ⟨hpriority, satInc_pos (by decide), satInc_le, hticket, hticket', Nat.zero_le _⟩
    · exact hr.admission.queue x (List.mem_of_mem_filter hx)

/-- What SET-SLOT's fields may carry (R179). -/
theorem readSettings_inRange {pr pi o1 o0 bp au rs : Byte} {t : SlotSettings}
    (h : readSettings pr pi o1 o0 bp au rs = some t) : t.priority ≤ 7 ∧ ∀ d ∈ t.overrideDraw, d ≤ 20000 := by
  obtain ⟨hpriority, -, hdraw, -, -, -⟩ := readSettings_eq_some_iff.1 h
  obtain ⟨⟨-, hle⟩, heq⟩ := readRange_eq_some_iff.1 hpriority
  refine ⟨heq ▸ hle, fun d hd => ?_⟩
  rw [Option.mem_def.1 hd] at hdraw
  unfold readOverride at hdraw
  split at hdraw
  · simp only [Option.some.injEq] at hdraw
    omega
  · split at hdraw <;> simp at hdraw

theorem Slot.Ranges.withSettings {sl : Slot} (h : sl.Ranges) {t : SlotSettings} (hpriority : t.priority ≤ 7)
    (hdraw : ∀ d ∈ t.overrideDraw, d ≤ 20000) : (sl.withSettings t).Ranges := by
  refine { h with priority := hpriority, overrideDraw := hdraw, holdOff := fun n hn => ?_ }
  unfold Slot.withSettings at hn
  dsimp only at hn
  split at hn
  · exact absurd hn (Option.not_mem_none n)
  · exact h.holdOff n hn

theorem setSlotRequest_carriesOut (payload : List Byte) (s : State) : s.CarriesOut (setSlotRequest payload s).1 := by
  unfold setSlotRequest
  split
  · split
    · exact .refl s
    · rename_i i _
      dsimp only
      split
      · exact .refl s
      · split
        · exact .refl s
        · rename_i t ht
          obtain ⟨hpriority, hdraw⟩ := readSettings_inRange ht
          have hset : s.KeepsLaws (s.upd i fun sl => sl.withSettings t) :=
            (State.KeepsLaws.refl s).upd i fun hr => (hr.slots i).withSettings hpriority hdraw
          dsimp only
          split
          · exact (hset.moveEntry i hpriority).carriesOut
          · exact hset.carriesOut
  · exact .refl s

theorem State.KeepsLaws.disable {r s : State} (h : r.KeepsLaws s) (i : SlotId) : r.KeepsLaws (s.disable i) := by
  have hemptied := State.KeepsLaws.emptyEvents (h.upd i
    (f := fun sl => { sl with holdOff := none, power := .vacant, moduleClass := none, autoPending := false })
    fun hr => { hr.slots i with holdOff := forall_mem_none }) i
  unfold State.disable
  dsimp only
  split
  · exact hemptied.endLock i _
  · exact hemptied

theorem setHardwareRequest_carriesOut (payload : List Byte) (s : State) :
    s.CarriesOut (setHardwareRequest payload s).1 := by
  unfold setHardwareRequest
  split
  · split
    · exact .refl s
    · rename_i i _
      split
      · exact .refl s
      · rename_i h _
        have hset : s.KeepsLaws (s.upd i fun sl => { sl with hardware := h }) :=
          (State.KeepsLaws.refl s).upd i fun hr => { hr.slots i with }
        dsimp only
        split
        · exact .refl s
        · dsimp only
          split
          · exact (hset.disable i).carriesOut
          · split
            · unfold State.enable
              split
              · exact (hset.moduleArrives i).carriesOut
              · exact hset.carriesOut
            · exact hset.carriesOut
  · exact .refl s

/-! ### The requests that write the part's settings -/

theorem setSupplyRequest_carriesOut (payload : List Byte) (s : State) :
    s.CarriesOut (setSupplyRequest payload s).1 := by
  unfold setSupplyRequest
  split
  · split
    · rename_i k capacity _ hcapacity
      obtain ⟨⟨-, hle⟩, rfl⟩ := readRange_eq_some_iff.1 hcapacity
      dsimp only
      split
      · exact .refl s
      · split
        · exact .refl s
        · exact ((State.KeepsLaws.refl s).withSupply k fun _ => hle).recompute.carriesOut
    · exact .refl s
  · exact .refl s

theorem State.KeepsLaws.withBudgetSettings {r s : State} (h : r.KeepsLaws s) {t : BudgetSettings}
    (hreserve : t.reserve ≤ 120000) (hbypass : t.bypassLimit ≤ 15)
    (hholdOff : 1 ≤ t.holdOffTime ∧ t.holdOffTime ≤ 15) : r.KeepsLaws (s.withBudgetSettings t) :=
  h.frame rfl (fun _ => rfl) rfl rfl fun hr => { hr with
    budget := { hr.budget with reserve := hreserve }
    admission := { hr.admission with bypassLimit := hbypass }
    holdOffTime := hholdOff }

theorem setBudgetRequest_carriesOut (payload : List Byte) (s : State) :
    s.CarriesOut (setBudgetRequest payload s).1 := by
  unfold setBudgetRequest
  split
  · split
    · exact .refl s
    · rename_i t ht
      obtain ⟨hreserve, -, -, hbypass, -, hholdOff⟩ := readBudgetSettings_eq_some_iff.1 ht
      obtain ⟨⟨-, hreserve⟩, hr⟩ := readRange_eq_some_iff.1 hreserve
      obtain ⟨⟨-, hbypass⟩, hb⟩ := readRange_eq_some_iff.1 hbypass
      obtain ⟨hholdOff, hh⟩ := readRange_eq_some_iff.1 hholdOff
      dsimp only
      split
      · exact .refl s
      · split
        · exact .refl s
        · exact ((State.KeepsLaws.refl s).withBudgetSettings (hr ▸ hreserve) (hb ▸ hbypass) (hh ▸ hholdOff)).recompute.carriesOut
  · exact .refl s

/-- What SET-PROFILE's fields may carry (R50, R52). -/
theorem readProfile_inRange {ax mn t1 t0 rr rt dg : Byte} {p : Profile}
    (h : readProfile ax mn t1 t0 rr rt dg = some p) : p.InRange := by
  obtain ⟨haux, hmain, hsettle, -, hready, hgrace⟩ := readProfile_eq_some_iff.1 h
  rw [readRange_eq_some_iff] at haux hmain hsettle hready hgrace
  simp only [Profile.InRange]
  omega

theorem setProfileRequest_carriesOut (payload : List Byte) (s : State) :
    s.CarriesOut (setProfileRequest payload s).1 := by
  unfold setProfileRequest
  split
  · split
    · rename_i k p _ hp
      refine State.KeepsLaws.carriesOut ?_
      refine (State.KeepsLaws.refl s).frame rfl (fun _ => rfl) rfl rfl fun hr => { hr with profiles := fun m => ?_ }
      show ((s.profiles.set k.val p k.isLt)[m.val]).InRange
      rw [Vector.getElem_set]
      split
      · exact readProfile_inRange hp
      · exact hr.profiles m
    · exact .refl s
  · exact .refl s

theorem setClassesRequest_carriesOut (payload : List Byte) (s : State) :
    s.CarriesOut (setClassesRequest payload s).1 := by
  unfold setClassesRequest
  split
  · dsimp only
    split
    · rename_i hle
      refine State.KeepsLaws.carriesOut ?_
      refine (State.KeepsLaws.refl s).withBudget fun hb => { hb with classDraws := fun c => ?_ }
      exact of_decide_eq_true (List.all_eq_true.1 hle _ (Vector.mem_toList_iff.2 (Vector.getElem_mem c.isLt)))
    · exact .refl s
  · exact .refl s

theorem setBlinkRequest_carriesOut (payload : List Byte) (s : State) :
    s.CarriesOut (setBlinkRequest payload s).1 := by
  unfold setBlinkRequest
  split
  · dsimp only
    split
    · rename_i p _ _ _ _ _
      refine State.KeepsLaws.carriesOut ?_
      cases p <;> exact (State.KeepsLaws.refl s).frame rfl (fun _ => rfl) rfl rfl fun hr => { hr with }
    · exact .refl s
  · exact .refl s

theorem gateRequest_carriesOut (payload : List Byte) (s : State) : s.CarriesOut (gateRequest payload s).1 := by
  have hgate : ∀ g, s.KeepsLaws { s with admission := { s.admission with gate := g } } := fun g =>
    (State.KeepsLaws.refl s).withAdmission fun hr => { hr.admission with }
  unfold gateRequest
  split
  · split
    · exact .refl s
    · rename_i g _
      split
      · exact .refl s
      · dsimp only
        split
        · exact (hgate g).markPass.carriesOut
        · exact (hgate g).carriesOut
  · exact .refl s

end Sys2Proof.Machine
end

section
set_option Elab.async false -- few threads at a time: each takes its stack from the check's memory
/-! PROOFS. Every step keeps the laws of the ranges, of the event unit and of the message port: an answered request, what the
receiver takes, the frames on the line, the restarts and the tick (R143, R145, R150 to R168, R181 to R186). -/
namespace Sys2Proof.Machine

/-! ### A request answered (R162) -/

/-- The reply goes into the oldest entry without one. -/
theorem storeReply_append {l₁ l₂ : List Request} {r : Request} {reply : List Byte}
    (hexecuted : ∀ x ∈ l₁, x.reply.isSome = true) (hr : r.reply = none) :
    storeReply r.tag reply (l₁ ++ r :: l₂) = l₁ ++ { r with reply := some reply } :: l₂ := by
  induction l₁ with
  | nil => simp [storeReply, hr]
  | cons x xs ih =>
    obtain ⟨hx, hxs⟩ := List.forall_mem_cons.1 hexecuted
    have hne : ¬(x.tag = r.tag ∧ x.reply = none) := fun h => by simp [h.2] at hx
    rw [List.cons_append, storeReply, if_neg hne, ih hxs, List.cons_append]

/-- The requests before the one that is due are executed, those behind it are not (R161, R162). -/
theorem Port.Sound.due_request {p : Port} (h : p.Sound) {r : Request} (hr : p.nextRequest = some r) :
    ∃ l₁ l₂, p.requests = l₁ ++ r :: l₂ ∧ r.reply = none ∧ (∀ x ∈ l₁, x.reply.isSome = true) ∧
      ∀ x ∈ l₂, x.reply = none := by
  obtain ⟨hnone, l₁, l₂, hsplit, hbefore⟩ := List.find?_eq_some_iff_append.1 hr
  have horder := h.order
  rw [hsplit, List.pairwise_append, List.pairwise_cons] at horder
  obtain ⟨-, ⟨hbehind, -⟩, -⟩ := horder
  have hr' : r.reply = none := Option.isNone_iff_eq_none.1 hnone
  refine ⟨l₁, l₂, hsplit, hr', fun x hx => ?_, fun x hx => ?_⟩
  · simpa using hbefore x hx
  · by_contra hx'
    have hsome := hbehind x hx (Option.isSome_iff_ne_none.2 hx')
    simp [hr'] at hsome

theorem Port.Sound.answer {p : Port} (h : p.Sound) {r : Request} (hr : p.nextRequest = some r) (reply : List Byte) :
    ({ p with
      requests := storeReply r.tag reply p.requests
      ready := p.ready ++ [.reply r.tag]
      offerDue := true } : Port).Sound := by
  obtain ⟨l₁, l₂, hsplit, hnone, hexecuted, hwaiting⟩ := h.due_request hr
  have hlength := h.length
  have hfields := h.fields
  have horder := h.order
  have hreplies := h.replies
  have hl₂ : l₂.filter (fun x : Request => x.reply.isSome) = [] :=
    List.filter_eq_nil_iff.2 fun x hx => by simp [hwaiting x hx]
  have hstore : storeReply r.tag reply p.requests = l₁ ++ { r with reply := some reply } :: l₂ := by
    rw [hsplit, storeReply_append hexecuted hnone]
  rw [hsplit] at hlength hfields horder hreplies
  refine { h with length := ?_, tags := ?_, fields := ?_, order := ?_, replies := ?_, rejects := ?_, held := ?_ }
  · rw [hstore]
    simpa using hlength
  · rw [storeReply_tags]
    exact h.tags
  · rw [hstore]
    intro x hx
    obtain hx | hx := List.mem_append.1 hx
    · exact hfields x (List.mem_append_left _ hx)
    · obtain rfl | hx := List.mem_cons.1 hx
      · exact hfields r (List.mem_append_right _ List.mem_cons_self)
      · exact hfields x (List.mem_append_right _ (List.mem_cons_of_mem r hx))
  · obtain ⟨hl₁, hrest, -⟩ := List.pairwise_append.1 horder
    rw [hstore]
    refine List.pairwise_append.2 ⟨hl₁, List.pairwise_cons.2 ⟨fun _ _ _ => rfl, (List.pairwise_cons.1 hrest).2⟩, ?_⟩
    exact fun a ha _ _ _ => hexecuted a ha
  · rw [hstore, List.filterMap_append, hreplies]
    simp [List.filter_append, hl₂, hnone, Ready.replyTag]
  · simpa [Port.rejectsHeld, Ready.isReject] using h.rejects
  · intro hheld
    obtain ⟨-, hempty, -⟩ := h.held hheld
    simp [hempty] at hsplit

/-- What the execution of a request makes of the port is open: an offer is due. -/
theorem State.PortOpen.answer {s : State} (hsound : s.port.Sound) (hreplies : s.RestartReplies) {r : Request}
    (hr : s.port.nextRequest = some r) {reply : List Byte}
    (hrestart : r.kind = 0x7F → reply = [0x00] → s.part.restartAsk ≠ .none) : (s.answer r.tag reply).PortOpen := by
  obtain ⟨l₁, l₂, hsplit, hnone, hexecuted, -⟩ := hsound.due_request hr
  refine ⟨hsound.answer hr reply, ⟨hreplies.sending, fun x hx hkind hok => ?_⟩, fun hdue => absurd hdue.symm Bool.false_ne_true⟩
  have hx' : x ∈ l₁ ++ { r with reply := some reply } :: l₂ := by
    rw [← storeReply_append hexecuted hnone, ← hsplit]
    exact hx
  obtain hx' | hx' := List.mem_append.1 hx'
  · exact hreplies.waiting x (hsplit ▸ List.mem_append_left _ hx') hkind hok
  · obtain rfl | hx' := List.mem_cons.1 hx'
    · exact hrestart hkind (Option.some.inj hok)
    · exact hreplies.waiting x (hsplit ▸ List.mem_append_right _ (List.mem_cons_of_mem r hx')) hkind hok

/-! ### Whole happenings -/

/-- From `s` to `t`, by a whole happening or a tick, the laws of the ranges, of the event unit and of the port are kept. -/
structure State.StepKeeps (s t : State) : Prop where
  ranges : s.Ranges → t.Ranges
  events : s.EventsSound → t.EventsSound
  port : s.PortOpen → s.port.offerDue = false → t.PortOpen ∧ t.port.offerDue = false

theorem State.StepKeeps.refl (s : State) : s.StepKeeps s := ⟨id, id, fun hp hdue => ⟨hp, hdue⟩⟩

/-- A happening that leaves the port open, its end taken. -/
theorem State.KeepsLaws.finish {s t : State} (h : s.KeepsLaws t) : s.StepKeeps t.finish :=
  ⟨fun hr => (h.ranges hr).finish, fun he => (h.events he).finish, fun hp _ => (h.port hp).finish⟩

theorem State.CarriesOut.execute {s : State} {tag kind : Byte} {payload : List Byte}
    {body : State → State × List Byte} (h : s.CarriesOut (body s).1)
    (hrestart : kind = 0x7F → (body s).2 = [0x00] → (body s).1.part.restartAsk ≠ .none) :
    s.StepKeeps (s.execute tag kind payload body) := by
  obtain ⟨hdue, hdone⟩ | ⟨-, hnone⟩ := s.execute_cases tag kind payload body
  · rw [hdone]
    simp only [State.requestDue, Bool.and_eq_true, decide_eq_true_eq] at hdue
    obtain ⟨hnext, -⟩ := hdue
    refine ⟨fun hr => State.Ranges.finish ?_, fun he => State.EventsSound.finish ?_, fun hp _ => State.PortOpen.finish ?_⟩
    · exact { h.ranges hr with port := { (h.ranges hr).port with } }
    · exact { h.events he with }
    · have hfree : s.port.rxHeld = false := by
        by_contra hheld
        obtain ⟨-, hempty, -⟩ := hp.sound.held (Bool.not_eq_false _ ▸ hheld)
        simp [Port.nextRequest, hempty] at hnext
      have hnext' : (body s).1.port.nextRequest = some ⟨tag, kind, payload, none⟩ := by
        rw [Port.nextRequest, h.requests]
        exact hnext
      exact State.PortOpen.answer (h.sound hp hfree) (h.replies hp) hnext' hrestart
  · rw [hnone]
    exact .refl s

/-- A request of another KIND than RESTART's. -/
theorem State.CarriesOut.executes {s : State} {tag kind : Byte} {payload : List Byte}
    {body : State → State × List Byte} (h : s.CarriesOut (body s).1) (hkind : kind ≠ 0x7F := by decide) :
    s.StepKeeps (s.execute tag kind payload body) :=
  h.execute fun hk => absurd hk hkind

/-- RESTART's OK reply comes with the restart asked for (R175). -/
theorem restartRequest_asks (payload : List Byte) (s : State) (hok : (restartRequest payload s).2 = [0x00]) :
    (restartRequest payload s).1.part.restartAsk ≠ .none := by
  unfold restartRequest at hok ⊢
  split at hok
  · split at hok
    · simp [statusOnly, Status.code] at hok
    · simp
  · simp [statusOnly, Status.code] at hok

theorem State.StepKeeps.happen {s : State} {arises : Bool} {effect : State} (h : arises = true → s.KeepsLaws effect) :
    ∃ t, s.happen arises effect = .next t ∧ s.StepKeeps t := by
  obtain ⟨harises, hdone⟩ | ⟨-, hnone⟩ := s.happen_cases arises effect
  · exact ⟨_, hdone, (h harises).finish⟩
  · exact ⟨s, hnone, .refl s⟩

/-! ### What the receiver does (R156 to R160) -/

/-- From `p` to `q`, the receiving side has moved: nothing that waits for the line has gone, nothing new waits but with an
offer due, and a request that has come has no reply. -/
structure Port.Takes (p q : Port) : Prop where
  ranges : p.InRange → q.InRange
  sound : p.Sound → q.Sound
  waits : q.offerDue = false → p.offerDue = false ∧ q.ready = p.ready
  sending : q.sending = p.sending
  credit : q.credit = p.credit
  held : q.rxHeld = true → p.rxHeld = true
  requests : ∀ r ∈ q.requests, r ∈ p.requests ∨ r.reply = none

/-- What the receiver does leaves the line in use: with a space held on LINK_RX nothing waited. -/
theorem State.PortOpen.takes {s : State} (h : s.PortOpen) {q : Port} (hq : s.port.Takes q) :
    ({ s with port := q } : State).PortOpen := by
  refine ⟨hq.sound h.sound, ⟨?_, fun r hr hkind hok => ?_⟩, fun hdue hidle => ?_⟩
  · show ∀ f ∈ q.sending, f.isRestartReply = true → s.part.restartAsk ≠ .none
    rw [hq.sending]
    exact h.replies.sending
  · obtain hr | hnone := hq.requests r hr
    · exact h.replies.waiting r hr hkind hok
    · exact absurd (hnone.symm.trans hok) (by simp)
  · obtain ⟨hdue', hready⟩ := hq.waits hdue
    show q.ready = [] ∧ (q.credit = 0 ∨ s.events.Silent)
    rw [hready, hq.credit]
    cases hheld : s.port.rxHeld with
    | true =>
      obtain ⟨hnothing, -, -, hzero⟩ := h.sound.held hheld
      exact ⟨hnothing, .inl hzero⟩
    | false =>
      refine h.busy hdue' ?_
      simp only [State.lineIdle, hq.sending, Bool.and_eq_true, Bool.not_eq_true'] at hidle ⊢
      obtain ⟨⟨hsending, -⟩, hask⟩ := hidle
      exact ⟨⟨hsending, hheld⟩, hask⟩

theorem State.Ranges.takes {s : State} (h : s.Ranges) {q : Port} (hq : s.port.Takes q) :
    ({ s with port := q } : State).Ranges :=
  { h with port := hq.ranges h.port }

theorem State.EventsSound.withPort {s : State} (h : s.EventsSound) (q : Port) :
    ({ s with port := q } : State).EventsSound :=
  { h with }

/-- A happening of the receiving side, its end taken. -/
theorem Port.Takes.finish {s : State} {q : Port} (hq : s.port.Takes q) :
    s.StepKeeps ({ s with port := q } : State).finish :=
  ⟨fun hr => (hr.takes hq).finish, fun he => (he.withPort q).finish, fun hp _ => (hp.takes hq).finish⟩

namespace Port.Takes

section
variable {p q u : Port}

theorem trans (h : p.Takes q) (h' : q.Takes u) : p.Takes u where
  ranges := h'.ranges ∘ h.ranges
  sound := h'.sound ∘ h.sound
  waits hdue := by
    obtain ⟨hq, hready'⟩ := h'.waits hdue
    obtain ⟨hp, hready⟩ := h.waits hq
    exact ⟨hp, hready'.trans hready⟩
  sending := h'.sending.trans h.sending
  credit := h'.credit.trans h.credit
  held := h.held ∘ h'.held
  requests r hr := by
    obtain hr | hnone := h'.requests r hr
    · exact h.requests r hr
    · exact .inr hnone

/-- Another state of the receiver, the gap count starting anew or stopped, and other counters. -/
theorem receiving (r : Receiver) (held : Bool) (checkFailures gapAborts lengthErrors droppedRejects : Nat)
    (hr : p.receiver.lawful = true → r.lawful = true) (hheld : held = true → p.rxHeld = true)
    (hcounters : p.InRange → checkFailures ≤ 65535 ∧ gapAborts ≤ 65535 ∧ lengthErrors ≤ 65535 ∧ droppedRejects ≤ 65535) :
    p.Takes { p with
      receiver := r, gap := 0, rxHeld := held, checkFailures := checkFailures, gapAborts := gapAborts
      lengthErrors := lengthErrors, droppedRejects := droppedRejects } where
  ranges h := by
    obtain ⟨hcheck, hgap, hlength, hdropped⟩ := hcounters h
    exact ⟨h.linkRate, Nat.zero_le _, h.framesAccepted, hcheck, hgap, hlength, hdropped⟩
  sound h := { h with receiver := hr h.receiver, held := fun hx => h.held (hheld hx) }
  waits hdue := ⟨hdue, rfl⟩
  sending := rfl
  credit := rfl
  held := hheld
  requests _ := .inl

theorem counts (h : p.InRange) :
    p.checkFailures ≤ 65535 ∧ p.gapAborts ≤ 65535 ∧ p.lengthErrors ≤ 65535 ∧ p.droppedRejects ≤ 65535 :=
  ⟨h.checkFailures, h.gapAborts, h.lengthErrors, h.droppedRejects⟩

/-- A reject produced takes a free holding place, with an offer due, or is dropped and counted (R160). -/
theorem produceReject (h : p.Takes q) (hfree : q.rxHeld = false) (status : Status) (tag : Byte) :
    p.Takes (q.produceReject status tag) := by
  refine h.trans ?_
  unfold Port.produceReject
  split
  · rename_i hroom
    refine ⟨fun h => { h with }, fun h => { h with replies := ?_, rejects := ?_, held := ?_ },
      fun hdue => absurd hdue.symm Bool.false_ne_true, rfl, rfl, id, fun _ => .inl⟩
    · rw [List.filterMap_append, h.replies]
      exact List.append_nil _
    · simpa [Port.rejectsHeld, Ready.isReject] using hroom
    · exact fun hheld => absurd (hfree.symm.trans hheld) Bool.false_ne_true
  · exact ⟨fun h => { h with droppedRejects := satInc_le }, fun h => { h with }, fun hdue => ⟨hdue, rfl⟩, rfl, rfl, id,
      fun _ => .inl⟩

/-- A frame joins the request queue behind the others, without a reply (R161). -/
theorem acceptFrame (h : p.Takes q) (hfree : q.rxHeld = false) {tag kind : Byte} {payload : List Byte} (htag : tag ≠ 0)
    (hfresh : tag ∉ q.requests.map (·.tag)) (hroom : q.requests.length < 8)
    (hpayload : p.Sound → payload.length ≤ 120) : p.Takes (q.acceptFrame tag kind payload) := by
  refine ⟨fun hr => { h.ranges hr with framesAccepted := satInc_le }, fun hs => ?_, h.waits, h.sending, h.credit, h.held,
    fun r hr => ?_⟩
  · have hq := h.sound hs
    refine { hq with length := ?_, tags := ?_, fields := ?_, order := ?_, replies := ?_, held := ?_ }
    · simpa [Port.acceptFrame] using hroom
    · simp only [Port.acceptFrame, List.map_append, List.map_cons, List.map_nil]
      exact List.nodup_append.2 ⟨hq.tags, List.nodup_singleton tag, fun a ha b hb => by
        obtain rfl := List.mem_singleton.1 hb
        exact fun e => hfresh (e ▸ ha)⟩
    · intro r hr
      obtain hr | hr := List.mem_append.1 hr
      · exact hq.fields r hr
      · obtain rfl := List.mem_singleton.1 hr
        exact ⟨htag, hpayload hs⟩
    · refine List.pairwise_append.2 ⟨hq.order, List.pairwise_singleton _ _, fun a _ b hb hsome => ?_⟩
      obtain rfl := List.mem_singleton.1 hb
      exact absurd hsome Bool.false_ne_true
    · simpa [Port.acceptFrame, List.filter_append] using hq.replies
    · exact fun hheld => absurd (hfree.symm.trans hheld) Bool.false_ne_true
  · obtain hr | hr := List.mem_append.1 hr
    · exact h.requests r hr
    · obtain rfl := List.mem_singleton.1 hr
      exact .inr rfl

/-- The judgement of a frame (R159): a reject, or a frame that may join. -/
theorem judgeFrame (h : p.Takes q) (hfree : q.rxHeld = false) (len tag kind : Byte) {payload : List Byte}
    (check : Word16) (hpayload : p.Sound → payload.length ≤ 120) :
    p.Takes (q.judgeFrame len tag kind payload check) := by
  have hcounted : p.Takes { q with checkFailures := satInc counterTop q.checkFailures } :=
    h.trans ⟨fun h => { h with checkFailures := satInc_le }, fun h => { h with }, fun hdue => ⟨hdue, rfl⟩, rfl, rfl, id,
      fun _ => .inl⟩
  unfold Port.judgeFrame
  split
  · exact hcounted.produceReject hfree _ _
  · split
    · exact h.produceReject hfree _ _
    · rename_i htag
      split
      · exact h.produceReject hfree _ _
      · rename_i hfresh
        split
        · exact h.produceReject hfree _ _
        · rename_i hroom
          exact h.acceptFrame hfree htag (mt any_tag_iff.2 hfresh) (Nat.not_le.1 hroom) hpayload

/-- A character taken leaves the receiver in a lawful state, the gap count starting anew. -/
theorem heard {r : Receiver} (hr : p.receiver.lawful = true → r.lawful = true) : p.Takes (p.heard r) :=
  receiving r false p.checkFailures p.gapAborts p.lengthErrors p.droppedRejects hr (fun h => absurd h Bool.false_ne_true)
    counts

end

end Port.Takes

theorem Receiver.lawful_afterKind {len : Byte} (tag kind : Byte) (h : len.toNat ≤ 120) :
    (Receiver.afterKind len tag kind).lawful = true := by
  unfold Receiver.afterKind
  split
  · rename_i hzero
    simp [Receiver.lawful, hzero]
  · simp only [Receiver.lawful, List.length_nil, Bool.and_eq_true, decide_eq_true_eq]
    omega

theorem Receiver.lawful_afterPayload {len tag kind : Byte} {taken : List Byte} {due : Nat} (b : Byte)
    (h : (Receiver.body len tag kind taken due).lawful = true) :
    (Receiver.afterPayload len tag kind (taken ++ [b]) due).lawful = true := by
  simp only [Receiver.lawful, Bool.and_eq_true, decide_eq_true_eq] at h
  unfold Receiver.afterPayload
  split <;> simp only [Receiver.lawful, List.length_append, List.length_singleton, Bool.and_eq_true, decide_eq_true_eq] <;>
    omega

/-- A byte taken moves the receiver by the table of R157, and completes a frame at its second check byte. -/
theorem Port.Takes.receive (p : Port) (b : Byte) : p.Takes (p.receive b) := by
  unfold Port.receive
  dsimp only
  cases hreceiver : p.receiver with
  | hunt =>
    dsimp only
    split <;> exact Port.Takes.heard fun _ => rfl
  | headerLen =>
    dsimp only
    split
    · exact Port.Takes.receiving .hunt false p.checkFailures p.gapAborts (satInc counterTop p.lengthErrors) p.droppedRejects
        (fun _ => rfl) (fun h => absurd h Bool.false_ne_true)
        fun h => ⟨h.checkFailures, h.gapAborts, satInc_le, h.droppedRejects⟩
    · rename_i hlen
      exact Port.Takes.heard fun _ => decide_eq_true (Nat.not_lt.1 hlen)
  | headerTag len => exact Port.Takes.heard fun h => by rw [hreceiver] at h; exact h
  | headerKind len tag =>
    exact Port.Takes.heard fun h => by
      rw [hreceiver] at h
      exact Receiver.lawful_afterKind tag b (of_decide_eq_true h)
  | body len tag kind taken due =>
    exact Port.Takes.heard fun h => by
      rw [hreceiver] at h
      exact Receiver.lawful_afterPayload b h
  | checkHigh len tag kind payload => exact Port.Takes.heard fun h => by rw [hreceiver] at h; exact h
  | checkLow len tag kind payload high =>
    have hhunt : p.Takes (p.heard .hunt) := Port.Takes.heard fun _ => rfl
    refine hhunt.judgeFrame rfl len tag kind (high ++ b) fun hs => ?_
    have hlawful := hs.receiver
    rw [hreceiver] at hlawful
    simp only [Receiver.lawful, Bool.and_eq_true, decide_eq_true_eq] at hlawful
    obtain ⟨hlen, hpayload⟩ := hlawful
    exact hpayload ▸ hlen

/-- The gap count moves up to 11 and no further: at 11 its abort is owed, and no tick comes (R158). -/
theorem Port.Takes.tick {p : Port} (hgap : p.gapDue = false) : p.Takes p.tick := by
  unfold Port.tick
  split
  · rename_i hrunning
    have hlow : p.gap + 1 ≤ 11 := by
      simp only [Port.gapDue, hrunning, Bool.true_and, decide_eq_false_iff_not] at hgap
      omega
    exact ⟨fun h => { h with gap := hlow }, fun h => { h with }, fun hdue => ⟨hdue, rfl⟩, rfl, rfl, id, fun _ => .inl⟩
  · exact ⟨id, id, fun hdue => ⟨hdue, rfl⟩, rfl, rfl, id, fun _ => .inl⟩

/-! ### The link reset and the end of a frame (R163 to R165) -/

theorem RestartAsk.becomeDue_ne_none {a : RestartAsk} (h : a ≠ .none) : a.becomeDue ≠ .none := by
  cases a with
  | none => exact absurd rfl h
  | asked _ => exact RestartAsk.noConfusion
  | due _ => exact RestartAsk.noConfusion

theorem RestartAsk.isDue_becomeDue {a : RestartAsk} (h : a ≠ .none) : a.becomeDue.isDue = true := by
  cases a with
  | none => exact absurd rfl h
  | asked _ => rfl
  | due _ => rfl

/-- A link reset leaves nothing waiting and nothing sent (R164). -/
theorem State.StepKeeps.linkReset (s : State) :
    s.StepKeeps { s with port := s.port.linkReset, part.restartAsk := s.part.restartAsk.becomeDue } where
  ranges hr := { hr with port := { hr.port with gap := Nat.zero_le _ } }
  events he := { he with }
  port _ _ := by
    refine ⟨⟨⟨Nat.zero_le _, List.nodup_nil, List.forall_mem_nil _, List.Pairwise.nil, rfl, Nat.zero_le _, Nat.zero_le _,
      rfl, fun _ => ⟨rfl, rfl, rfl, rfl⟩⟩, ⟨forall_mem_none, List.forall_mem_nil _⟩, fun _ hidle => ?_⟩, rfl⟩
    simp [State.lineIdle, Port.linkReset] at hidle

/-- The end of a frame leaves an offer due, or a requested restart, for which the line waits (R162, R163). -/
theorem State.PortOpen.endFrame {s : State} (h : s.PortOpen) : s.endFrame.PortOpen := by
  unfold State.endFrame
  split
  · exact h
  · rename_i f hf
    have hsound : ∀ due, ({ s.port with sending := none, offerDue := due } : Port).Sound := fun due =>
      { h.sound with
        held := fun hheld => by
          obtain ⟨-, -, hnone, -⟩ := h.sound.held hheld
          exact absurd (hf.symm.trans hnone) (by simp) }
    split
    · rename_i hrestart
      have hask := h.replies.sending f hf hrestart
      refine ⟨hsound _, ⟨forall_mem_none, fun _ _ _ _ => RestartAsk.becomeDue_ne_none hask⟩, fun _ hidle => ?_⟩
      simp [State.lineIdle, RestartAsk.isDue_becomeDue hask] at hidle
    · exact ⟨hsound _, ⟨forall_mem_none, h.replies.waiting⟩, fun hdue => absurd hdue.symm Bool.false_ne_true⟩

theorem State.StepKeeps.endFrame (s : State) : s.StepKeeps s.endFrame.finish := by
  refine ⟨fun hr => State.Ranges.finish ?_, fun he => State.EventsSound.finish ?_, fun hp _ => hp.endFrame.finish⟩
  · unfold State.endFrame
    split
    · exact hr
    · split <;> exact { hr with port := { hr.port with } }
  · unfold State.endFrame
    split
    · exact he
    · split <;> exact { he with }

end Sys2Proof.Machine
end

section
set_option Elab.async false -- few threads at a time: each takes its stack from the check's memory
/-! PROOFS. The restarts and the tick keep the laws of the ranges, of the event unit and of the message port, and so does
every step (R143, R145, R150, R181 to R186). -/
namespace Sys2Proof.Machine

/-! ### What a reset and a restart leave (R155, R168, R182) -/

/-- A port after a reset or a restart holds nothing and grants nothing, whether LINK_RX is held at space or not. -/
theorem State.portOpen_of_restarted {s : State} {rate : Nat} {held due : Bool}
    (hport : s.port = { Port.reset rate with rxHeld := held, offerDue := due }) : s.PortOpen := by
  refine ⟨?_, ⟨?_, ?_⟩, fun _ _ => ?_⟩ <;> rw [hport]
  · exact ⟨Nat.zero_le _, List.nodup_nil, List.forall_mem_nil _, List.Pairwise.nil, rfl, Nat.zero_le _, Nat.zero_le _, rfl,
      fun _ => ⟨rfl, rfl, rfl, rfl⟩⟩
  · exact forall_mem_none
  · exact List.forall_mem_nil _
  · exact ⟨rfl, .inl rfl⟩

theorem Port.InRange.reset {rate : Nat} (hrate : rate ≤ 3) (held due : Bool) :
    ({ Port.reset rate with rxHeld := held, offerDue := due } : Port).InRange :=
  ⟨hrate, Nat.zero_le _, Nat.zero_le _, Nat.zero_le _, Nat.zero_le _, Nat.zero_le _, Nat.zero_le _⟩

theorem Slot.Ranges.reset : Slot.reset.Ranges :=
  ⟨by decide, by decide, forall_mem_none, forall_mem_none, forall_mem_none, forall_mem_none, forall_mem_none, forall_mem_none,
    forall_mem_none, forall_mem_none, forall_mem_none⟩

theorem Admission.InRange.reset : Admission.reset.InRange :=
  ⟨by decide, by decide, by decide, List.forall_mem_nil _⟩

theorem classDefaults_le : ∀ c : Fin 4, classDefaults.get c ≤ 20000 := by decide

theorem Profile.reset_inRange : Profile.reset.InRange := by decide

theorem State.reset_profiles_inRange (p : Fin 4) : (State.reset.profiles.get p).InRange := by
  have hget : State.reset.profiles.get p = Profile.reset := Vector.getElem_replicate p.isLt
  rw [hget]
  exact Profile.reset_inRange

theorem State.reset_holdOffTime_range : 1 ≤ State.reset.holdOffTime ∧ State.reset.holdOffTime ≤ 15 := by decide

theorem rateCode_le (rateA rateB : Bool) : rateCode rateA rateB ≤ 3 := by
  cases rateA <;> cases rateB <;> decide

/-- Reading a supply record after a change of every one. -/
theorem Vector.get_map_supply (v : Vector Supply 4) (f : Supply → Supply) (n : SupplyId) : (v.map f).get n = f (v.get n) :=
  Vector.getElem_map f n.isLt

theorem State.Ranges.powerOnReset (s : State) (rateA rateB : Bool) : (s.powerOnReset rateA rateB).Ranges where
  budget := by
    refine ⟨fun n => ?_, Nat.zero_le _, Nat.zero_le _, classDefaults_le⟩
    refine le_of_eq_of_le (congrArg Supply.capacity (Vector.get_map_supply s.budget.supplies _ n)) ?_
    exact Nat.zero_le _
  admission := .reset
  profiles := State.reset_profiles_inRange
  holdOffTime := State.reset_holdOffTime_range
  ticketCounter := ⟨Nat.le_refl 1, Nat.le_of_ble_eq_true rfl⟩
  port := Port.InRange.reset (rateCode_le rateA rateB) false false
  slots i := by
    rw [State.slot_of_map (t := s.powerOnReset rateA rateB) rfl i]
    exact { Slot.Ranges.reset with }

/-- The event unit after a power-on reset: RESTARTED alone is pending, queued, and calls for ALERT. -/
theorem State.eventsSound_reset {s : State} (hevents : s.events = .reset) : s.EventsSound := by
  have hnotice : ∀ n ∈ s.events.notices, n = ⟨none, .restarted, 1, 0⟩ := by
    rw [hevents]
    exact fun n hn => List.mem_singleton.1 hn
  refine ⟨?_, fun n hn => ?_, ?_⟩
  · have halerting : s.alerting = true := by
      rw [State.alerting, hevents, Bool.or_eq_true]
      exact .inl rfl
    rw [halerting, hevents]
    rfl
  · obtain rfl := hnotice n hn
    show hasKind s.events.pendingZero .restarted = true
    rw [hevents]
    rfl
  · rw [hevents]
    exact ⟨by decide, List.pairwise_singleton _ _, by decide, by decide, by decide, by decide, by decide⟩

theorem State.StepKeeps.powerOnReset (s : State) (rateA rateB : Bool) : s.StepKeeps (s.powerOnReset rateA rateB) :=
  ⟨fun _ => .powerOnReset s rateA rateB, fun _ => State.eventsSound_reset rfl,
    fun _ _ => ⟨State.portOpen_of_restarted (held := false) (due := false) rfl, rfl⟩⟩

/-- The state whose event unit a restart has emptied, RESTARTED not yet posted (R155). -/
def State.eventsCleared (s : State) : State :=
  { s with events := s.events.cleared, slots := s.slots.map fun sl => { sl with pendingSet := 0 } }

theorem State.restartEvents_eq (s : State) : s.restartEvents = s.eventsCleared.occur none .restarted := rfl

/-- The event unit emptied is lawful, and so RESTARTED leaves it lawful (R155). -/
theorem State.eventsSound_restartEvents (s : State) : s.restartEvents.EventsSound :=
  State.eventsSound_occur (List.forall_mem_nil _)
    ⟨Nat.zero_le _, List.Pairwise.nil, List.forall_mem_nil _, by simp [Events.cleared], by simp [Events.cleared],
      fun h => absurd h Bool.false_ne_true, Nat.zero_le _⟩ _ _

theorem State.Ranges.restartEvents {s : State} (h : s.Ranges) : s.restartEvents.Ranges := by
  have hcleared : s.eventsCleared.Ranges := by
    refine { h with slots := fun i => ?_ }
    rw [State.slot_of_map (t := s.eventsCleared) rfl i]
    exact { h.slots i with }
  exact hcleared.occur none .restarted

/-- The port after RESTARTED: an offer is due (R163). -/
theorem State.restartEvents_port (s : State) : s.restartEvents.port = { s.port with offerDue := true } := by
  have hmask : hasKind s.eventsCleared.events.noticeMask .restarted = true :=
    show hasKind allKinds .restarted = true by decide
  rw [State.restartEvents_eq, State.occur_port, if_pos hmask]
  rfl

/-! ### The ride-through restart (R185) -/

theorem Slot.Ranges.discardControls {sl : Slot} (h : sl.Ranges) (now : Word32) : (sl.discardControls now).Ranges := by
  have hquiet : ({ sl with holdOff := none, lockTimer := none, lockEndDue := none } : Slot).Ranges :=
    { h with holdOff := forall_mem_none, lockTimer := forall_mem_none, lockEndDue := forall_mem_none }
  unfold Slot.discardControls
  dsimp only
  split
  · rename_i o ho
    split
    · refine { hquiet with operation := forall_mem_none, lastOutcome := fun x hx => ?_ }
      obtain rfl := Option.some.inj hx
      exact (h.operation o ho).2
    · exact hquiet
  · exact hquiet

theorem Slot.Ranges.leaveWaiting {sl : Slot} (h : sl.Ranges) : sl.leaveWaiting.Ranges := by
  unfold Slot.leaveWaiting
  split
  · exact { h with operation := forall_mem_none }
  · exact h

theorem Slot.Ranges.afterRestartCut {sl : Slot} (h : sl.Ranges) : sl.afterRestartCut.Ranges := by
  unfold Slot.afterRestartCut
  dsimp only
  split
  · exact { h with operation := forall_mem_none }
  · exact { h with operation := forall_mem_none }

theorem State.Ranges.rideThroughControls {s : State} (h : s.Ranges) : s.rideThroughControls.Ranges := by
  refine { h with admission := { h.admission with queue := List.forall_mem_nil _ }, slots := fun i => ?_ }
  rw [State.slot_of_map (s := s) rfl i]
  exact { ((h.slots i).discardControls s.part.uptime).leaveWaiting with }

theorem State.KeepsLaws.rideThroughSlot {r s : State} (h : r.KeepsLaws s) (i : SlotId) :
    r.KeepsLaws (s.rideThroughSlot i) := by
  unfold State.rideThroughSlot
  dsimp only
  split
  · refine (h.cutQuiet i _).upd i (fun hr => (hr.slots i).afterRestartCut) ?_
    unfold Slot.afterRestartCut
    dsimp only
    split <;> rfl
  · exact h

theorem State.KeepsLaws.rideThroughSlots (slots : List SlotId) {r s : State} (h : r.KeepsLaws s) :
    r.KeepsLaws (slots.foldl State.rideThroughSlot s) := by
  induction slots generalizing s with
  | nil => exact h
  | cons i rest ih => exact ih (h.rideThroughSlot i)

theorem State.cutQuiet_port (s : State) (i : SlotId) (st : PowerState) : (s.cutQuiet i st).port = s.port := by
  unfold State.cutQuiet
  rw [State.upd_port]
  unfold State.release
  split <;> rfl

theorem State.rideThroughSlots_port (slots : List SlotId) (s : State) :
    (slots.foldl State.rideThroughSlot s).port = s.port := by
  induction slots generalizing s with
  | nil => rfl
  | cons i rest ih =>
    rw [List.foldl_cons, ih]
    unfold State.rideThroughSlot
    dsimp only
    split
    · rw [State.upd_port, State.cutQuiet_port]
    · rfl

theorem State.rideThrough_port (s : State) (cause : RestartCause) :
    (s.rideThrough cause).port = { s.port.restarted with offerDue := true } := by
  unfold State.rideThrough
  dsimp only
  show (State.restartEvents _).port = _
  rw [State.restartEvents_port]
  dsimp only
  rw [State.rideThroughSlots_port]
  rfl

theorem State.Ranges.withCeiling {s : State} (h : s.Ranges) :
    ({ s with budget.ceiling := s.budget.computed } : State).Ranges :=
  { h with budget := { h.budget with ceiling := h.budget.computed_le } }

theorem State.Ranges.restartCaused {s : State} (h : s.Ranges) (cause : RestartCause) :
    (s.restartCaused cause).Ranges :=
  { h with }

theorem State.Ranges.rideThrough {s : State} (h : s.Ranges) (cause : RestartCause) : (s.rideThrough cause).Ranges := by
  have hport : ({ s with port := s.port.restarted } : State).Ranges :=
    { h with port := Port.InRange.reset h.port.linkRate s.port.rxHeld false }
  have hslots := (State.KeepsLaws.rideThroughSlots allSlots (.refl _)).ranges hport.rideThroughControls
  exact hslots.withCeiling.restartEvents.restartCaused cause

theorem State.EventsSound.restartCaused {s : State} (h : s.EventsSound) (cause : RestartCause) :
    (s.restartCaused cause).EventsSound :=
  { h with }

/-- A ride-through restart leaves every law, from any state within its ranges. -/
theorem State.StepKeeps.rideThrough (s : State) (cause : RestartCause) :
    s.StepKeeps (s.rideThrough cause).finish :=
  ⟨fun hr => (hr.rideThrough cause).finish,
    fun _ => ((State.eventsSound_restartEvents _).restartCaused cause).finish,
    fun _ _ => (State.portOpen_of_restarted (s.rideThrough_port cause)).finish⟩

/-! ### The full restart (R186) -/

theorem Budget.InRange.fullRestart {b : Budget} (h : b.InRange) (frozen : Bool) : (b.fullRestart frozen).InRange := by
  have hbase : ({ Budget.reset with
      supplies := b.supplies.map fun p => { p with capacity := if frozen then p.capacity else 0 } } : Budget).InRange := by
    refine ⟨fun n => ?_, Nat.zero_le _, Nat.zero_le _, classDefaults_le⟩
    dsimp only
    rw [Vector.get_map_supply]
    dsimp only
    split
    · exact h.capacity n
    · exact Nat.zero_le _
  exact { hbase with ceiling := hbase.computed_le }

theorem State.Ranges.fullRestart {s : State} (h : s.Ranges) : s.fullRestart.Ranges := by
  have hbase : ({ s with
      port := s.port.restarted, budget := s.budget.fullRestart s.part.frozen, admission := s.admission.fullRestart
      profiles := State.reset.profiles, slots := s.slots.map fun sl => sl.fullRestart s.part.frozen
      holdOffTime := State.reset.holdOffTime, slow := .slowReset, fast := .fastReset } : State).Ranges := by
    refine ⟨h.budget.fullRestart _,
      { Admission.InRange.reset with
        enqueueCounter := h.admission.enqueueCounter, admissionCounter := h.admission.admissionCounter },
      State.reset_profiles_inRange, State.reset_holdOffTime_range, h.ticketCounter, Port.InRange.reset h.port.linkRate s.port.rxHeld false,
      fun i => ?_⟩
    rw [State.slot_of_map (s := s) rfl i]
    exact { Slot.Ranges.reset with }
  exact hbase.restartEvents.restartCaused _

theorem State.fullRestart_port (s : State) : s.fullRestart.port = { s.port.restarted with offerDue := true } :=
  State.restartEvents_port _

theorem State.StepKeeps.fullRestart (s : State) : s.StepKeeps s.fullRestart.finish :=
  ⟨fun hr => hr.fullRestart.finish, fun _ => ((State.eventsSound_restartEvents _).restartCaused _).finish,
    fun _ _ => (State.portOpen_of_restarted s.fullRestart_port).finish⟩

end Sys2Proof.Machine
end

section
set_option Elab.async false -- few threads at a time: each takes its stack from the check's memory
/-! PROOFS. Every command and every tick keeps the laws of the ranges, of the event unit and of the message port: O58, O59
and O60. -/
namespace Sys2Proof.Machine

/-! ### The tick (R181) -/

theorem State.KeepsLaws.drivePin {r s : State} (h : r.KeepsLaws s) (p : Pin) (v : Bool) :
    r.KeepsLaws (s.drivePin p v) := by
  cases p with
  | supplyGood n => exact h.withSupply n id
  | restart | rateA | rateB => exact h.frame rfl (fun _ => rfl) rfl rfl fun hr => { hr with }
  | present i | class0 i | class1 i | lever i | button i | lockSense i | auxGood i | mainGood i | ready i | fault i =>
    exact h.updLines i _

theorem State.KeepsLaws.drivePins (pins : List (Pin × Bool)) {r s : State} (h : r.KeepsLaws s) :
    r.KeepsLaws (pins.foldl (fun s c => s.drivePin c.1 c.2) s) := by
  induction pins generalizing s with
  | nil => exact h
  | cons c rest ih => exact ih (h.drivePin c.1 c.2)

theorem State.KeepsLaws.driveWires {r s : State} (h : r.KeepsLaws s) : r.KeepsLaws s.driveWires := by
  unfold State.driveWires
  split
  · exact h
  · exact State.KeepsLaws.drivePins _ (h.frame rfl (fun _ => rfl) rfl rfl fun hr => { hr with })

theorem State.drivePin_port (s : State) (p : Pin) (v : Bool) : (s.drivePin p v).port = s.port := by
  cases p <;> rfl

theorem State.drivePins_port (pins : List (Pin × Bool)) (s : State) :
    (pins.foldl (fun s c => s.drivePin c.1 c.2) s).port = s.port := by
  induction pins generalizing s with
  | nil => rfl
  | cons c rest ih => exact (ih _).trans (s.drivePin_port c.1 c.2)

theorem State.driveWires_port (s : State) : s.driveWires.port = s.port := by
  unfold State.driveWires
  split
  · rfl
  · rw [State.drivePins_port]

theorem countDown_le {t : Option Nat} {n : Nat} (h : ∀ x ∈ t, x ≤ n) : ∀ x ∈ countDown t, x ≤ n := by
  intro x hx
  obtain ⟨y, hy, rfl⟩ := Option.map_eq_some_iff.1 hx
  exact (Nat.sub_le y 1).trans (h y hy)

theorem Slot.Ranges.tick {sl : Slot} (h : sl.Ranges) : sl.tick.Ranges :=
  { h with
    stageTimer := countDown_le h.stageTimer, holdOff := countDown_le h.holdOff, lockTimer := countDown_le h.lockTimer }

/-- One tick of every block but the port, the pins driven. -/
def State.tickApart (s : State) : State :=
  { s with
    part := { s.part with uptime := s.part.uptime + 1, restartLine := s.part.restartLine.sampleQuiet 5 }
    budget := { s.budget with supplies := s.budget.supplies.map fun p => { p with line := p.line.sample } }
    slots := s.slots.map Slot.tick
    slow := s.slow.tick
    fast := s.fast.tick }

theorem State.tick_eq (s : State) : s.tick = { s.driveWires.tickApart with port := s.driveWires.port.tick } := rfl

theorem State.KeepsLaws.tickApart {r s : State} (h : r.KeepsLaws s) : r.KeepsLaws s.tickApart := by
  have hslot : ∀ i, s.tickApart.slot i = (s.slot i).tick := State.slot_of_map rfl
  refine h.frame rfl (fun i => by rw [hslot]; rfl) rfl rfl fun hr => { hr with
    budget := { hr.budget with capacity := fun n => ?_ }, slots := fun i => ?_ }
  · refine le_of_eq_of_le (congrArg Supply.capacity (Vector.get_map_supply s.budget.supplies _ n)) ?_
    exact hr.budget.capacity n
  · rw [hslot]
    exact (hr.slots i).tick

theorem State.StepKeeps.tick {s : State} (hgap : s.port.gapDue = false) : s.StepKeeps s.tick := by
  have hkeeps := (State.KeepsLaws.refl s).driveWires.tickApart
  have htakes : s.driveWires.tickApart.port.Takes s.driveWires.port.tick := by
    show s.driveWires.port.Takes s.driveWires.port.tick
    rw [State.driveWires_port]
    exact .tick hgap
  have hdue : s.driveWires.port.tick.offerDue = s.port.offerDue := by
    rw [State.driveWires_port, Port.tick]
    split <;> rfl
  rw [State.tick_eq]
  exact ⟨fun hr => (hkeeps.ranges hr).takes htakes, fun he => (hkeeps.events he).withPort _,
    fun hp h => ⟨(hkeeps.port hp).takes htakes, hdue.trans h⟩⟩

/-- A tick is taken only while nothing of the present tick is owed, the gap abort included (R158). -/
theorem State.gapDue_of_dueNow {s : State} (h : s.dueNow = []) : s.port.gapDue = false := by
  cases hgap : s.port.gapDue with
  | false => rfl
  | true => simp [State.dueNow, dueIf, hgap] at h

/-! ### Blink patterns (R132, R138) -/

theorem State.KeepsLaws.changePattern {r s : State} (h : r.KeepsLaws s) (p : Pattern) (b : BlinkPattern) :
    r.KeepsLaws (s.changePattern p b) := by
  have hslot : ∀ i, (s.changePattern p b).slot i =
      (s.slot i).driven (s.setPattern p b).slow.lit (s.setPattern p b).fast.lit := by
    cases p <;> exact State.slot_of_map rfl
  have hrange : s.Ranges → (s.changePattern p b).Ranges := fun hr => by
    have hslots : ∀ i, ((s.changePattern p b).slot i).Ranges := fun i => by
      rw [hslot]
      exact { hr.slots i with }
    cases p <;> exact { hr with slots := hslots }
  cases p <;> exact h.frame rfl (fun i => by rw [hslot]; rfl) rfl rfl hrange

/-! ### Every command -/

/-- A restart that is owed (R184). -/
theorem State.StepKeeps.requestedRestart (s : State) :
    ∃ t, execRequestedRestart s = .next t ∧ s.StepKeeps t := by
  unfold execRequestedRestart
  obtain ⟨hdue, hdone⟩ | ⟨-, hnone⟩ := s.happen_cases s.part.restartAsk.isDue s.requestedRestart
  · refine ⟨_, hdone, ?_⟩
    unfold State.requestedRestart
    cases hask : s.part.restartAsk with
    | due keepPower =>
      cases keepPower with
      | true => exact .rideThrough s _
      | false => exact .fullRestart s
    | none | asked _ => simp [hask, RestartAsk.isDue] at hdue
  · exact ⟨s, hnone, .refl s⟩

/-- A rise of the RESTART line (R183). -/
theorem State.StepKeeps.restartLineRise (s : State) :
    s.StepKeeps (({ s with part.restartLine := .take true } : State).rideThrough .restartLine).finish := by
  have hrestart := State.StepKeeps.rideThrough { s with part.restartLine := .take true } .restartLine
  exact ⟨fun hr => hrestart.ranges { hr with }, fun he => hrestart.events { he with },
    fun hp hdue => hrestart.port ⟨hp.sound, ⟨hp.replies.sending, hp.replies.waiting⟩, hp.busy⟩ hdue⟩

theorem State.StepKeeps.execBadKind (s : State) (tag kind : Byte) (payload : List Byte) :
    ∃ t, execBadKind tag kind payload s = .next t ∧ s.StepKeeps t := by
  unfold Machine.execBadKind
  split
  · exact ⟨_, rfl, State.CarriesOut.execute (.refl s) fun _ hok =>
      absurd (show [Status.badKind.code] = [0x00] from hok) (by decide)⟩
  · exact ⟨s, rfl, .refl s⟩

/-- A character without its stop bit (R156). -/
theorem Port.Takes.abandonFrame (p : Port) (held : Bool) (gapAborts : Nat) (hheld : held = true → p.rxHeld = true)
    (hcount : p.InRange → gapAborts ≤ 65535) :
    p.Takes { p.abandonFrame with rxHeld := held, gapAborts := gapAborts } :=
  .receiving .hunt held p.checkFailures gapAborts p.lengthErrors p.droppedRejects (fun _ => rfl) hheld
    fun h => ⟨h.checkFailures, hcount h, h.lengthErrors, h.droppedRejects⟩

theorem State.StepKeeps.execGapAbort (s : State) : ∃ t, execGapAbort s = .next t ∧ s.StepKeeps t := by
  unfold Machine.execGapAbort
  obtain ⟨-, hdone⟩ | ⟨-, hnone⟩ := s.happen_cases s.port.gapDue
    { s with port := { s.port.abandonFrame with gapAborts := satInc counterTop s.port.gapAborts } }
  · exact ⟨_, hdone, Port.Takes.finish (Port.Takes.abandonFrame s.port s.port.rxHeld _ id fun _ => satInc_le)⟩
  · exact ⟨s, hnone, .refl s⟩

theorem State.StepKeeps.execFrameEnd (s : State) : ∃ t, execFrameEnd s = .next t ∧ s.StepKeeps t := by
  unfold Machine.execFrameEnd
  obtain ⟨-, hdone⟩ | ⟨-, hnone⟩ := s.happen_cases s.port.sending.isSome s.endFrame
  · exact ⟨_, hdone, .endFrame s⟩
  · exact ⟨s, hnone, .refl s⟩

/-- Every command answers a next state, and the laws are kept. -/
theorem State.exec_keeps (s : State) (c : Instr) : ∃ t, exec c s = .next t ∧ s.StepKeeps t := by
  have h := State.KeepsLaws.refl s
  cases c with
  | identify tag payload => exact ⟨_, rfl, (identifyRequest_carriesOut payload s).executes⟩
  | grant tag payload => exact ⟨_, rfl, (grantRequest_carriesOut payload s).executes⟩
  | readLink tag payload => exact ⟨_, rfl, (readLinkRequest_carriesOut payload s).executes⟩
  | setNotices tag payload => exact ⟨_, rfl, (setNoticesRequest_carriesOut payload s).executes⟩
  | readSlot tag payload => exact ⟨_, rfl, (readSlotRequest_carriesOut payload s).executes⟩
  | readQueue tag payload => exact ⟨_, rfl, (readQueueRequest_carriesOut payload s).executes⟩
  | readBudget tag payload => exact ⟨_, rfl, (readBudgetRequest_carriesOut payload s).executes⟩
  | readEvents tag payload => exact ⟨_, rfl, (readEventsRequest_carriesOut payload s).executes⟩
  | ackEvents tag payload => exact ⟨_, rfl, (ackEventsRequest_carriesOut payload s).executes⟩
  | readProfile tag payload => exact ⟨_, rfl, (readProfileRequest_carriesOut payload s).executes⟩
  | powerOn tag payload => exact ⟨_, rfl, (powerOnRequest_carriesOut payload s).executes⟩
  | powerOff tag payload => exact ⟨_, rfl, (powerOffRequest_carriesOut payload s).executes⟩
  | clearFault tag payload => exact ⟨_, rfl, (clearFaultRequest_carriesOut payload s).executes⟩
  | lock tag payload => exact ⟨_, rfl, (lockRequest_carriesOut .lock payload s).executes⟩
  | unlock tag payload => exact ⟨_, rfl, (lockRequest_carriesOut .unlock payload s).executes⟩
  | setIndicator tag payload => exact ⟨_, rfl, (setIndicatorRequest_carriesOut payload s).executes⟩
  | setSlot tag payload => exact ⟨_, rfl, (setSlotRequest_carriesOut payload s).executes⟩
  | setHardware tag payload => exact ⟨_, rfl, (setHardwareRequest_carriesOut payload s).executes⟩
  | setSupply tag payload => exact ⟨_, rfl, (setSupplyRequest_carriesOut payload s).executes⟩
  | setBudget tag payload => exact ⟨_, rfl, (setBudgetRequest_carriesOut payload s).executes⟩
  | setProfile tag payload => exact ⟨_, rfl, (setProfileRequest_carriesOut payload s).executes⟩
  | setClasses tag payload => exact ⟨_, rfl, (setClassesRequest_carriesOut payload s).executes⟩
  | setBlink tag payload => exact ⟨_, rfl, (setBlinkRequest_carriesOut payload s).executes⟩
  | gate tag payload => exact ⟨_, rfl, (gateRequest_carriesOut payload s).executes⟩
  | freeze tag payload => exact ⟨_, rfl, (freezeRequest_carriesOut payload s).executes⟩
  | restart tag payload =>
    exact ⟨_, rfl, (restartRequest_carriesOut payload s).execute fun _ => restartRequest_asks payload s⟩
  | badKind tag kind payload => exact StepKeeps.execBadKind s tag kind payload
  | byteReceived b => exact ⟨_, rfl, (Port.Takes.receive s.port b).finish⟩
  | characterWithoutStopBit =>
    exact ⟨_, rfl, Port.Takes.finish (Port.Takes.abandonFrame s.port false s.port.gapAborts
      (fun hheld => absurd hheld Bool.false_ne_true) Port.InRange.gapAborts)⟩
  | gapAbort => exact StepKeeps.execGapAbort s
  | linkReset => exact ⟨_, rfl, .linkReset s⟩
  | frameEnd => exact StepKeeps.execFrameEnd s
  | supplyGoodChange n good => exact StepKeeps.happen fun _ => h.supplyChange n good
  | admissionPass => exact StepKeeps.happen fun _ => h.pass
  | auxGoodRises i => exact StepKeeps.happen fun _ => h.auxGoodRise i
  | mainGoodRises i => exact StepKeeps.happen fun _ => h.mainGoodRise i
  | settleTimeEnds i => exact StepKeeps.happen fun _ => h.endSettle i
  | readyRises i => exact StepKeeps.happen fun _ => h.readyRise i
  | stageDueEnd i => exact StepKeeps.happen fun _ => h.stageEnd i
  | stageDeadlineExpiry i => exact StepKeeps.happen fun _ => h.deadlineExpiry i
  | readyFalls i => exact StepKeeps.happen fun _ => h.readyFall i
  | drainGraceExpiry i => exact StepKeeps.happen fun _ => h.endDrain i _
  | drainDueEnd i => exact StepKeeps.happen fun _ => h.endDrain i _
  | faultLineRises i => exact ⟨_, rfl, (h.faultLineRise i).finish⟩
  | overcurrentDue i => exact StepKeeps.happen fun _ => h.dueOvercurrent i
  | railGoodFalls i rail => exact StepKeeps.happen fun _ => h.railFall i rail
  | railLostDue i rail => exact StepKeeps.happen fun _ => h.dueRailLost i rail
  | insertion i class0 class1 => exact StepKeeps.happen fun _ => h.insertion i class0 class1
  | removal i => exact StepKeeps.happen fun _ => h.removal i
  | leverChange i closed => exact StepKeeps.happen fun _ => h.leverChange i closed
  | buttonPress i => exact ⟨_, rfl, (h.buttonPress i).finish⟩
  | holdOffExpiry i => exact StepKeeps.happen fun _ => h.windowExpires i
  | lockSenseChange i engaged => exact StepKeeps.happen fun _ => h.lockSenseChange i engaged
  | lockDeadlineExpiry i => exact StepKeeps.happen fun _ => h.endLock i _
  | lockDueEnd i => exact StepKeeps.happen fun _ => h.dueLockEnd i
  | blinkPeriodBoundary p => exact StepKeeps.happen fun _ => h.changePattern p _
  | blinkOnTimeEnd p => exact StepKeeps.happen fun _ => h.changePattern p _
  | powerOnReset rateA rateB => exact ⟨_, rfl, .powerOnReset s rateA rateB⟩
  | restartLineRise => exact ⟨_, rfl, .restartLineRise s⟩
  | requestedRestart => exact StepKeeps.requestedRestart s

/-- A step is a command, a happening or a tick (log 1), and each keeps the laws. -/
theorem step_keepsLaws {s s' : State} (h : step s = .next s') : s.StepKeeps s' := by
  have hexec : ∀ {u : State} {c : Instr}, exec c u = .next s' → s.StepKeeps u → s.StepKeeps s' := by
    intro u c hc hu
    obtain ⟨t, ht, hkeeps⟩ := u.exec_keeps c
    obtain rfl : t = s' := by simpa [ht] using hc
    exact ⟨hkeeps.ranges ∘ hu.ranges, hkeeps.events ∘ hu.events, fun hp hdue => by
      obtain ⟨hp', hdue'⟩ := hu.port hp hdue
      exact hkeeps.port hp' hdue'⟩
  obtain ⟨c, rest, -, hc⟩ | ⟨-, u, hu, hmove⟩ := step_cases h
  · exact hexec hc ⟨fun hr => { hr with }, fun he => { he with },
      fun hp hdue => ⟨⟨hp.sound, ⟨hp.replies.sending, hp.replies.waiting⟩, hp.busy⟩, hdue⟩⟩
  · have hkeeps : s.StepKeeps u := by
      obtain rfl | rfl := hu
      · exact .refl u
      · exact ⟨fun hr => { hr with }, fun he => { he with },
          fun hp hdue => ⟨⟨hp.sound, ⟨hp.replies.sending, hp.replies.waiting⟩, hp.busy⟩, hdue⟩⟩
    obtain ⟨c, -, hc⟩ | ⟨hnone, rfl⟩ := hmove
    · exact hexec hc hkeeps
    · have hgap : u.port.gapDue = false := by
        obtain rfl | rfl := hu
        · exact State.gapDue_of_dueNow hnone
        · exact State.gapDue_of_dueNow (s := s) hnone
      have htick := State.StepKeeps.tick hgap
      exact ⟨htick.ranges ∘ hkeeps.ranges, htick.events ∘ hkeeps.events, fun hp hdue => by
        obtain ⟨hp', hdue'⟩ := hkeeps.port hp hdue
        exact htick.port hp' hdue'⟩

/-! ### The obligations -/

/-- Settles O58: in the midst of a happening the port may owe an offer, which its end makes. -/
theorem portIsKept : Obligations.PortIsKept := by
  intro s s' hport hbusy hstep
  obtain ⟨hopen, hdue⟩ := s.portOpen_iff.1 ⟨hport, hbusy⟩
  exact s'.portOpen_iff.2 ((step_keepsLaws hstep).port hopen hdue)

/-- Settles O59: every occurrence recomputes ALERT, and posts within the laws of the notice queue. -/
theorem eventsAreKept : Obligations.EventsAreKept := by
  intro s s' hevents hstep
  exact s'.eventsLawful_iff.2 ((step_keepsLaws hstep).events (s.eventsLawful_iff.1 hevents))

/-- Settles O60: every write is of a quantity that its field, its table or a saturating count keeps in range. -/
theorem rangesAreKept : Obligations.RangesAreKept := by
  intro s s' hranges hstep
  exact s'.inRange_iff.2 ((step_keepsLaws hstep).ranges (s.inRange_iff.1 hranges))

end Sys2Proof.Machine
end

section
set_option Elab.async false -- few threads at a time: each takes its stack from the check's memory
/-! PROOFS. One tick of the time base (O3) and the lines that it samples (O4). -/
namespace Sys2Proof.Machine

/-! ### The pins driven before a tick (log 9) -/

/-- Of a bay, a driven pin changes its own lines alone, and those of its slot alone. -/
theorem State.slot_drivePin (s : State) (p : Pin) (v : Bool) (i : SlotId) :
    (s.drivePin p v).slot i = s.slot i ∨
      (s.drivePin p v).slot i =
        ({ s.slot i with lines := (s.slot i).lines.drivePin i p v } : Slot).driven s.slow.lit s.fast.lit := by
  have hupd : ∀ j, (s.updLines j (BayLines.drivePin j p v)).slot i = s.slot i ∨
      (s.updLines j (BayLines.drivePin j p v)).slot i =
        ({ s.slot i with lines := (s.slot i).lines.drivePin i p v } : Slot).driven s.slow.lit s.fast.lit := by
    intro j
    by_cases hj : i = j
    · subst hj
      exact .inr (State.slot_upd_same s i _)
    · exact .inl (State.slot_upd_ne s _ hj)
  cases p with
  | supplyGood | restart | rateA | rateB => exact .inl rfl
  | present j | class0 j | class1 j | lever j | button j | lockSense j | auxGood j | mainGood j | ready j | fault j =>
    exact hupd j

theorem State.drivePin_part_uptime (s : State) (p : Pin) (v : Bool) : (s.drivePin p v).part.uptime = s.part.uptime := by
  cases p <;> rfl

/-- Driven pins leave the patterns, the queue and the accounts as they are. -/
theorem State.drivePin_blocks (s : State) (p : Pin) (v : Bool) :
    (s.drivePin p v).slow = s.slow ∧ (s.drivePin p v).fast = s.fast ∧ (s.drivePin p v).admission = s.admission ∧
      (s.drivePin p v).budget.committed = s.budget.committed ∧ (s.drivePin p v).budget.ceiling = s.budget.ceiling := by
  cases p <;> exact ⟨rfl, rfl, rfl, rfl, rfl⟩

/-- What driven pins leave alone: the uptime, the patterns, the queue and the accounts, and of a slot all but its lines and its
outputs. -/
structure State.PinsApart (s t : State) : Prop where
  uptime : t.part.uptime = s.part.uptime
  blocks : t.slow = s.slow ∧ t.fast = s.fast ∧ t.admission = s.admission ∧
    t.budget.committed = s.budget.committed ∧ t.budget.ceiling = s.budget.ceiling
  slots : ∀ i, { t.slot i with lines := (s.slot i).lines, out := (s.slot i).out } = s.slot i

theorem State.PinsApart.refl (s : State) : s.PinsApart s := ⟨rfl, ⟨rfl, rfl, rfl, rfl, rfl⟩, fun _ => rfl⟩

theorem State.PinsApart.drivePin {s t : State} (h : s.PinsApart t) (p : Pin) (v : Bool) :
    s.PinsApart (t.drivePin p v) := by
  obtain ⟨hslow, hfast, hadmission, hcommitted, hceiling⟩ := t.drivePin_blocks p v
  obtain ⟨hslow', hfast', hadmission', hcommitted', hceiling'⟩ := h.blocks
  refine ⟨(t.drivePin_part_uptime p v).trans h.uptime, ⟨hslow.trans hslow', hfast.trans hfast',
    hadmission.trans hadmission', hcommitted.trans hcommitted', hceiling.trans hceiling'⟩, fun i => ?_⟩
  obtain hslot | hslot := t.slot_drivePin p v i <;> rw [hslot] <;> exact h.slots i

theorem State.PinsApart.driveWires (s : State) : s.PinsApart s.driveWires := by
  have hpins : ∀ (pins : List (Pin × Bool)) {t : State}, s.PinsApart t →
      s.PinsApart (pins.foldl (fun s c => s.drivePin c.1 c.2) t) := by
    intro pins
    induction pins with
    | nil => exact id
    | cons c rest ih => exact fun h => ih (h.drivePin c.1 c.2)
  unfold State.driveWires
  split
  · exact .refl s
  · exact hpins _ ⟨rfl, ⟨rfl, rfl, rfl, rfl, rfl⟩, fun _ => rfl⟩

/-! ### One tick (R181) -/

theorem State.slot_tick (s : State) (i : SlotId) : s.tick.slot i = (s.driveWires.slot i).tick :=
  State.slot_of_map (s := s.driveWires) rfl i

theorem State.tick_port (s : State) : s.tick.port = s.port.tick := by
  rw [State.tick_eq, ← State.driveWires_port s]

theorem Port.tick_of_hunt {p : Port} (h : p.receiver = .hunt) : p.tick = p := by
  simp [Port.tick, h, Receiver.running]

theorem Port.tick_of_not_hunt {p : Port} (h : p.receiver ≠ .hunt) : p.tick = { p with gap := p.gap + 1 } := by
  have hrunning : p.receiver.running = true := by
    cases hr : p.receiver <;> simp_all [Receiver.running]
  simp [Port.tick, hrunning]

/-- Settles O3: the pins driven, every count of a slot is the one that stood before the tick, less 1. -/
theorem tickCounts : Obligations.TickCounts := by
  intro s
  have hpins := State.PinsApart.driveWires s
  refine ⟨?_, fun i => ⟨(s.slot i).lines, ?_⟩, fun h => ?_, fun h => ?_⟩
  · exact congrArg (· + 1) hpins.uptime
  · have hslot := hpins.slots i
    rw [State.slot_tick]
    refine Eq.trans ?_ (congrArg (fun sl : Slot =>
      { sl with stageTimer := sl.stageTimer.map (· - 1), holdOff := sl.holdOff.map (· - 1)
                lockTimer := sl.lockTimer.map (· - 1) }) hslot)
    rfl
  · rw [State.tick_port, Port.tick_of_not_hunt h]
  · rw [State.tick_port, Port.tick_of_hunt h]

/-! ### The filters (R2, R45, R92, R109, R183) -/

/-- Samples at the opposite level are counted. -/
theorem Line.iterate_sample {l : Line} (hlevel : l.level ≠ l.held) (hcount : l.count = 0) (k : Nat) :
    Line.sample^[k] l = { l with count := k } := by
  induction k with
  | zero => exact congrArg (Line.mk l.level l.held) hcount
  | succ k ih =>
    rw [Function.iterate_succ_apply', ih]
    simp [Line.sample, hlevel]

theorem Line.iterate_sampleQuiet_rise (n k : Nat) :
    (Line.sampleQuiet n)^[k] ⟨true, false, 0⟩ = ⟨true, false, k⟩ := by
  induction k with
  | zero => rfl
  | succ k ih =>
    rw [Function.iterate_succ_apply', ih]
    rfl

theorem Line.sampleQuiet_settled (n : Nat) (v : Bool) (count : Nat) (hn : 0 < n) :
    Line.sampleQuiet n ⟨v, v, count⟩ = ⟨v, v, 0⟩ := by
  have hnot : ¬n ≤ 0 := Nat.not_le.2 hn
  simp [Line.sampleQuiet, Line.sample, hnot]

/-- A fall that has been seen on `n` ticks takes effect in the filter, and the count starts afresh (log 5). -/
theorem Line.iterate_sampleQuiet_fall {n : Nat} (hn : 0 < n) (k : Nat) :
    (Line.sampleQuiet n)^[k] ⟨false, true, 0⟩ = if k < n then ⟨false, true, k⟩ else ⟨false, false, 0⟩ := by
  induction k with
  | zero => rw [if_pos hn]; rfl
  | succ k ih =>
    rw [Function.iterate_succ_apply', ih]
    by_cases hk : k < n
    · rw [if_pos hk]
      by_cases hk' : k + 1 < n
      · have hnot : ¬n ≤ k + 1 := Nat.not_le.2 hk'
        simp [Line.sampleQuiet, Line.sample, hk', hnot]
      · simp [Line.sampleQuiet, Line.sample, hk', Nat.not_lt.1 hk']
    · have hk' : ¬k + 1 < n := fun h => hk (Nat.lt_of_succ_lt h)
      rw [if_neg hk, if_neg hk', Line.sampleQuiet_settled n false 0 hn]

/-! ### A driven pin (log 9) -/

theorem State.lines_drivePin (s : State) (p : Pin) (v : Bool) (i : SlotId) :
    ((s.drivePin p v).slot i).lines = (s.slot i).lines.drivePin i p v := by
  have hupd : ∀ j, p.slot = some j →
      ((s.updLines j (BayLines.drivePin j p v)).slot i).lines = (s.slot i).lines.drivePin i p v := by
    intro j hj
    by_cases hij : i = j
    · subst hij
      exact congrArg Slot.lines (State.slot_upd_same s i _)
    · rw [show (s.updLines j (BayLines.drivePin j p v)).slot i = s.slot i from State.slot_upd_ne s _ hij]
      cases p <;> simp_all [Pin.slot, BayLines.drivePin, eq_comm]
  cases p with
  | supplyGood | restart | rateA | rateB => rfl
  | present j | class0 j | class1 j | lever j | button j | lockSense j | auxGood j | mainGood j | ready j | fault j =>
    exact hupd j rfl

/-- Driving a pin of a bay moves the levels of its lines, and neither debounced values nor counts. -/
theorem BayLines.drivePin_same (i : SlotId) (p : Pin) (v : Bool) (l : BayLines) :
    let same (a b : Line) : Prop := a.held = b.held ∧ a.count = b.count
    let l' := l.drivePin i p v
    same l'.present l.present ∧ same l'.lever l.lever ∧ same l'.button l.button ∧ same l'.lockSense l.lockSense ∧
    same l'.auxGood l.auxGood ∧ same l'.mainGood l.mainGood ∧ same l'.ready l.ready ∧ same l'.fault l.fault := by
  cases p with
  | supplyGood | restart | rateA | rateB => simp [BayLines.drivePin]
  | _ => dsimp only [BayLines.drivePin]; split <;> simp [Line.drive]

theorem Vector.get_set_supply (v : Vector Supply 4) (n m : SupplyId) (p : Supply) :
    (v.set n.val p n.isLt).get m = if m = n then p else v.get m := by
  show (v.set n.val p n.isLt)[m.val] = _
  rw [Vector.getElem_set]
  by_cases h : m = n
  · subst h
    simp
  · have h' : n.val ≠ m.val := fun e => h (Fin.ext e.symm)
    rw [if_neg h', if_neg h]
    rfl

theorem State.supplies_drivePin (s : State) (p : Pin) (v : Bool) (n : SupplyId) :
    ((s.drivePin p v).budget.supplies.get n).line =
      if p = .supplyGood n then ((s.budget.supplies.get n).line.drive v) else (s.budget.supplies.get n).line := by
  cases p with
  | supplyGood m =>
    show ((s.budget.supplies.set m.val _ m.isLt).get n).line = _
    rw [Vector.get_set_supply]
    by_cases h : n = m
    · subst h
      simp
    · simp [h, Ne.symm h]
  | _ => rfl

theorem State.restartLine_drivePin (s : State) (p : Pin) (v : Bool) :
    (s.drivePin p v).part.restartLine =
      if p = .restart then s.part.restartLine.drive v else s.part.restartLine := by
  cases p <;> rfl

/-- A driven pin shows its level, and every other pin the level it had. -/
theorem State.levelAt_drivePin (s : State) (p : Pin) (v : Bool) (q : Pin) :
    (s.drivePin p v).levelAt q = if q = p then v else s.levelAt q := by
  cases q with
  | supplyGood n =>
    simp only [State.levelAt, State.supplies_drivePin, eq_comm (a := p)]
    split <;> rfl
  | restart =>
    simp only [State.levelAt, State.restartLine_drivePin, eq_comm (a := p)]
    split <;> rfl
  | rateA | rateB => cases p <;> rfl
  | present i | class0 i | class1 i | lever i | button i | lockSense i | auxGood i | mainGood i | ready i | fault i =>
    simp only [State.levelAt, State.lines_drivePin]
    cases p with
    | supplyGood | restart | rateA | rateB => simp [BayLines.drivePin]
    | _ j =>
      dsimp only [BayLines.drivePin]
      by_cases hj : j = i
      · subst hj
        simp [Line.drive]
      · simp [hj, Ne.symm hj]

/-! ### What is due of a line -/

theorem Line.turns_iff {l : Line} {v : Bool} {n : Nat} : l.Turns v n ↔ l.level = v ∧ l.dueAfter n = true := by
  obtain ⟨level, held, count⟩ := l
  cases level <;> cases held <;> cases v <;> simp [Line.dueAfter, Line.Turns]

theorem Line.turns_true_iff {l : Line} {n : Nat} : l.Turns true n ↔ l.held = false ∧ l.dueAfter n = true := by
  obtain ⟨level, held, count⟩ := l
  cases level <;> cases held <;> simp [Line.dueAfter, Line.Turns]

theorem Line.turns_false_iff {l : Line} {n : Nat} : l.Turns false n ↔ l.held = true ∧ l.dueAfter n = true := by
  obtain ⟨level, held, count⟩ := l
  cases level <;> cases held <;> simp [Line.dueAfter, Line.Turns]

/-- Settles O4: the filters by induction on the samples, and what is due of each line from `State.Due`. -/
theorem linesAreDebounced : Obligations.LinesAreDebounced := by
  refine ⟨fun l n k hlevel hcount => ?_, fun l hlevel => ?_, fun n k hn => ?_, fun s => ?_, fun s p v i => ?_,
    fun s i => ?_, fun s n good => ?_, fun s => ?_⟩
  · rw [Line.iterate_sample hlevel hcount]
    simp [Line.dueAfter, hlevel]
  · simp [Line.sample, hlevel]
  · exact ⟨Line.iterate_sampleQuiet_rise n k, Line.iterate_sampleQuiet_fall hn k,
      fun v count => Line.sampleQuiet_settled n v count hn⟩
  · refine ⟨fun i => ?_, fun n => ?_, rfl, fun h => ?_, fun now later h => ?_, State.levelAt_drivePin s⟩
    · rw [State.slot_tick]
      rfl
    · exact congrArg Supply.line (Vector.get_map_supply s.driveWires.budget.supplies _ n)
    · simp [State.driveWires, h]
    · simp [State.driveWires, h]
  · obtain ⟨h₁, h₂, h₃, h₄, h₅, h₆, h₇, h₈⟩ := BayLines.drivePin_same i p v (s.slot i).lines
    dsimp only
    rw [State.lines_drivePin]
    refine ⟨h₁, h₂, h₃, h₄, h₅, h₆, h₇, h₈, ?_, fun n => ?_⟩
    · rw [State.restartLine_drivePin]
      split <;> exact ⟨rfl, rfl⟩
    · rw [State.supplies_drivePin]
      split <;> exact ⟨rfl, rfl⟩
  · simp only [State.mem_dueHappenings, State.Due, Line.turns_true_iff, Line.turns_false_iff, BayLines.goodOf, and_true,
      true_and]
    exact ⟨fun _ => Line.turns_iff, fun _ => Line.turns_iff⟩
  · simp only [State.mem_dueHappenings, State.Due, Line.turns_iff]
  · simp only [State.mem_dueHappenings, State.Due, Line.turns_true_iff]

end Sys2Proof.Machine
end

section
set_option Elab.async false -- few threads at a time: each takes its stack from the check's memory
/-! PROOFS. Requests of the port and of the part (chapters 8 to 10): a wrong length or KIND (R162), SET-NOTICES (R149),
READ-SLOT (R176), GATE, FREEZE and RESTART (R33, R174, R175), and SET-SUPPLY (R17). -/
namespace Sys2Proof.Machine

/-! ### A wrong length or KIND (R162) -/

/-- Settles O5: the body of a request tests the length first; a KIND outside the table has the BAD_KIND body. -/
theorem wrongKindOrLength : Obligations.WrongKindOrLength := by
  refine ⟨fun s c tag kind payload n hrequest hlength hne howes => ?_, fun s tag kind payload hkind howes => ?_⟩
  · exact ⟨_, exec_eq_execute s hlength hrequest,
      howes.execute_answered (requestBody_of_badLength s hlength hrequest hne) rfl rfl⟩
  · have hrow : requestCommand tag kind payload = .badKind tag kind payload :=
      (eq_requestCommand_iff.2 ⟨rfl, fun _ => hkind⟩).symm
    exact ⟨_, if_pos hrow, howes.execute_answered (body := badKindRequest) rfl rfl rfl⟩

/-! ### SET-NOTICES (R149) -/

/-- A mask names nothing but the eleven kinds exactly when its high byte is below 8. -/
theorem within_allKinds_iff {h l : Byte} : within (kindSet h l) allKinds = true ↔ h.toNat < 8 := by
  have hrest : ~~~allKinds = ((0xF8 : Byte) ++ (0x00 : Byte) : Word16) := by decide
  have hzero : l &&& (0x00 : Byte) = 0 := by simp
  rw [within, kindSet, hrest, beq_iff_eq, BitVec.and_append, append_byte_eq_zero_iff, hzero,
    and_high_five_bits_eq_zero_iff]
  simp

theorem setNoticesRequest_badValue {n1 a1 : Byte} (n0 a0 : Byte) (s : State) (h : 8 ≤ n1.toNat ∨ 8 ≤ a1.toNat) :
    setNoticesRequest [n1, n0, a1, a0] s = (s, [0x21]) := by
  have houtside : ¬(within (kindSet n1 n0) allKinds && within (kindSet a1 a0) allKinds) = true := by
    rw [Bool.and_eq_true, within_allKinds_iff, within_allKinds_iff]
    omega
  simp only [setNoticesRequest, if_neg houtside]
  rfl

/-- The state with both masks written and ALERT recomputed. -/
def State.withMasks (s : State) (noticeMask alertMask : Word16) : State :=
  ({ s with events.noticeMask := noticeMask, events.alertMask := alertMask } : State).realert

theorem setNoticesRequest_of_within {n1 a1 : Byte} (n0 a0 : Byte) (s : State) (hn : n1.toNat < 8) (ha : a1.toNat < 8) :
    setNoticesRequest [n1, n0, a1, a0] s = (s.withMasks (n1 ++ n0) (a1 ++ a0), [0x00, n1, n0, a1, a0]) := by
  simp only [setNoticesRequest, within_allKinds_iff.2 hn, within_allKinds_iff.2 ha, Bool.and_self, if_true]
  rw [kindSet, kindSet, u16_toNat_append, u16_toNat_append]
  rfl

/-- Settles O8: both masks within the eleven kinds, or one outside them. -/
theorem setNotices : Obligations.SetNotices := by
  intro s tag n1 n0 a1 a0 howes alert
  refine ⟨fun ⟨hn, ha⟩ => ?_, fun hbad => ?_⟩
  · have halert : alert = ({ s with events.noticeMask := n1 ++ n0, events.alertMask := a1 ++ a0 } : State).alerting := by
      rw [Bool.eq_iff_iff, State.alerting_iff, decide_eq_true_iff, Option.exists]
      exact Iff.rfl
    rw [halert]
    exact ⟨_, rfl, howes.execute_answered (setNoticesRequest_of_within n0 a0 s hn ha) rfl rfl⟩
  · exact ⟨_, rfl, howes.execute_answered (setNoticesRequest_badValue n0 a0 s hbad) rfl rfl⟩

/-! ### READ-SLOT (R176) -/

/-- The bytes of one of several groups stand at the place that the lengths of the groups ahead of it give. -/
theorem bytesAt_flatten {gs : List (List Byte)} {k n : Nat} {g : List Byte} (hg : gs[k]? = some g)
    (hn : ((gs.map List.length).take k).sum = n) : bytesAt gs.flatten n g := by
  obtain ⟨hk, rfl⟩ := List.getElem?_eq_some_iff.1 hg
  have hsplit : gs.flatten = (gs.take k).flatten ++ (gs[k] ++ (gs.drop (k + 1)).flatten) := by
    rw [← List.flatten_cons, ← List.drop_eq_getElem_cons hk, ← List.flatten_append, List.take_append_drop]
  have hplace : (gs.take k).flatten.length = n := by
    rw [List.length_flatten, List.map_take, hn]
  rw [hsplit, ← hplace]
  exact bytesAt_append _ _ _

/-- The reply to READ-SLOT, cut into the groups of R176. -/
def slotGroups (i : SlotId) (sl : Slot) : List (List Byte) :=
  [[0x00, slotByte i, BitVec.ofNat 8 sl.power.code],
    [flagByte sl.hardware.enabled, flagByte sl.hardware.lockFitted, flagByte sl.hardware.surpriseTolerant],
    flagByte sl.lines.present.held :: classByte sl.moduleClass ++
      [flagByte sl.lines.lever.held, flagByte sl.lines.lockSense.held],
    [BitVec.ofNat 8 sl.buttonPolicy.code, flagByte sl.autoStart, flagByte sl.autoPending],
    u16 (sl.holdOff.getD 65535),
    [BitVec.ofNat 8 sl.profileIndex.val, flagByte sl.readyRequired],
    operationBytes sl.operation,
    outcomeBytes sl.lastOutcome,
    u16 (sl.overrideDraw.getD 65535),
    commitmentBytes sl.commitment,
    [BitVec.ofNat 8 sl.priority, flagByte sl.restoreAfterShed],
    faultBytes sl.lastFault,
    [BitVec.ofNat 8 sl.faultCount],
    [BitVec.ofNat 8 sl.lamps.powerHost.code, flagByte sl.lamps.powerAuto, BitVec.ofNat 8 sl.lamps.attnHost.code,
      flagByte sl.lamps.attnAuto, BitVec.ofNat 8 sl.out.powerMode.code, BitVec.ofNat 8 sl.out.attnMode.code],
    u16 sl.pendingSet.toNat]

theorem refusalByte_eq (r : Option Status) : refusalByte r = [(r.map Status.code).getD 255] := by
  cases r <;> rfl

theorem operationBytes_length (o : Option Operation) : (operationBytes o).length = 8 := by
  cases o <;> rfl

theorem outcomeBytes_length (o : Option LastOutcome) : (outcomeBytes o).length = 10 := by
  cases o with
  | none => rfl
  | some o => cases hr : o.refusal <;> simp only [outcomeBytes, hr] <;> rfl

theorem commitmentBytes_length (c : Option Commitment) : (commitmentBytes c).length = 8 := by
  cases c <;> rfl

theorem faultBytes_length (f : Option FaultRecord) : (faultBytes f).length = 8 := by
  cases f <;> rfl

theorem classByte_length (c : Option (Fin 4)) : (classByte c).length = 1 := by
  cases c <;> rfl

theorem slotGroups_lengths (i : SlotId) (sl : Slot) :
    (slotGroups i sl).map List.length = [3, 3, 4, 3, 2, 2, 8, 10, 2, 8, 2, 8, 1, 6, 2] := by
  simp [slotGroups, operationBytes_length, outcomeBytes_length, commitmentBytes_length, faultBytes_length,
    classByte_length, u16_length]

/-- A group of the reply at its place. -/
theorem bytesAt_slotGroups {i : SlotId} {sl : Slot} (k : Nat) {n : Nat} {g : List Byte}
    (hg : (slotGroups i sl)[k]? = some g)
    (hn : (([3, 3, 4, 3, 2, 2, 8, 10, 2, 8, 2, 8, 1, 6, 2] : List Nat).take k).sum = n) :
    bytesAt (slotGroups i sl).flatten n g :=
  bytesAt_flatten hg (by rw [slotGroups_lengths, hn])

theorem slotBytes_eq (i : SlotId) (sl : Slot) : 0x00 :: slotBytes i sl = (slotGroups i sl).flatten := by
  unfold slotBytes slotGroups
  simp only [List.flatten_cons, List.flatten_nil, List.append_assoc]
  simp only [List.cons_append, List.nil_append]
  simp only [hardwareBytes, lampBytes, flag_eq_flagByte, List.cons_append, List.nil_append]
  simp only [absentCode_eq_getD, List.append_nil]
  simp only [u8, slotByte, List.cons_append, List.nil_append]

theorem readSlotRequest_slotByte (s : State) (i : SlotId) :
    readSlotRequest [slotByte i] s = (s, (slotGroups i (s.slot i)).flatten) := by
  simp only [readSlotRequest, readSlotField_slotByte, statusOnly, Status.code, List.cons_append, List.nil_append]
  rw [← slotBytes_eq]

theorem readSlotRequest_badSlot {n : Byte} (s : State) (h : n.toNat = 0 ∨ 24 < n.toNat) :
    readSlotRequest [n] s = (s, [0x20]) := by
  simp only [readSlotRequest, readSlotField_eq_none h]
  rfl

/-- Settles O9: the reply is the groups of R176 one behind the other, each at the place that their lengths give. -/
theorem readSlot : Obligations.ReadSlot := by
  refine ⟨fun s tag i howes => ?_, fun s tag n howes hn => ?_⟩
  · refine ⟨_, _, rfl, howes.execute_answered (readSlotRequest_slotByte s i) rfl rfl, ?_, ?_⟩
    · rw [List.length_flatten, slotGroups_lengths]
      rfl
    · refine ⟨bytesAt_slotGroups 0 rfl rfl, bytesAt_slotGroups 1 rfl rfl, bytesAt_slotGroups 2 ?_ rfl,
        bytesAt_slotGroups 3 rfl rfl, bytesAt_slotGroups 4 rfl rfl, bytesAt_slotGroups 5 rfl rfl,
        bytesAt_slotGroups 6 ?_ rfl, bytesAt_slotGroups 7 ?_ rfl, bytesAt_slotGroups 8 rfl rfl,
        bytesAt_slotGroups 9 ?_ rfl, bytesAt_slotGroups 10 rfl rfl, bytesAt_slotGroups 11 ?_ rfl,
        bytesAt_slotGroups 12 rfl rfl, bytesAt_slotGroups 13 rfl rfl, bytesAt_slotGroups 14 rfl rfl⟩
      · simp only [slotGroups, List.getElem?_cons_succ, List.getElem?_cons_zero, Option.some.injEq]
        cases (s.slot i).moduleClass <;> rfl
      · simp only [slotGroups, List.getElem?_cons_succ, List.getElem?_cons_zero, Option.some.injEq]
        cases (s.slot i).operation <;> rfl
      · simp only [slotGroups, List.getElem?_cons_succ, List.getElem?_cons_zero, Option.some.injEq]
        cases (s.slot i).lastOutcome with
        | none => rfl
        | some o => simp only [outcomeBytes, refusalByte_eq]; rfl
      · simp only [slotGroups, List.getElem?_cons_succ, List.getElem?_cons_zero, Option.some.injEq]
        cases (s.slot i).commitment with
        | none => rfl
        | some c => simp only [commitmentBytes, flag_eq_flagByte]; rfl
      · simp only [slotGroups, List.getElem?_cons_succ, List.getElem?_cons_zero, Option.some.injEq]
        cases (s.slot i).lastFault <;> rfl
  · exact ⟨_, rfl, howes.execute_answered (readSlotRequest_badSlot s hn) rfl rfl⟩

/-! ### GATE, FREEZE and RESTART (R33, R174, R175) -/

theorem readGate_code (g : Gate) : readGate (BitVec.ofNat 8 g.code) = some g := by
  cases g <;> rfl

theorem readGate_eq_none {b : Byte} (h : 1 < b.toNat) : readGate b = none := by
  simp [readGate, readFlag_eq_none h]

theorem gateRequest_same (s : State) :
    gateRequest [BitVec.ofNat 8 s.admission.gate.code] s = (s, [0x03, BitVec.ofNat 8 s.admission.gate.code]) := by
  simp only [gateRequest, readGate_code, if_true]
  rfl

/-- The state with the gate written; an opening makes a pass due. -/
def State.withGate (s : State) (g : Gate) : State :=
  { s with admission.gate := g, admission.passDue := s.admission.passDue || decide (g = .opened) }

theorem gateRequest_other {s : State} {g : Gate} (h : g ≠ s.admission.gate) :
    gateRequest [BitVec.ofNat 8 g.code] s = (s.withGate g, [0x00, BitVec.ofNat 8 g.code]) := by
  simp only [gateRequest, readGate_code, if_neg h]
  cases g <;> simp [State.withGate, State.markPass, statusOnly, u8, Status.code]

theorem gateRequest_badValue {b : Byte} (s : State) (h : 1 < b.toNat) :
    gateRequest [b] s = (s, [0x21, BitVec.ofNat 8 s.admission.gate.code]) := by
  simp only [gateRequest, readGate_eq_none h]
  rfl

theorem freezeRequest_again {s : State} (h : s.part.frozen = true) : freezeRequest [] s = (s, [0x03]) := by
  simp only [freezeRequest, h, if_true]
  rfl

theorem freezeRequest_first {s : State} (h : s.part.frozen = false) :
    freezeRequest [] s = ({ s with part.frozen := true }, [0x00]) := by
  simp only [freezeRequest, h, Bool.false_eq_true, if_false]
  rfl

theorem restartRequest_flagByte (s : State) (keep : Bool) :
    restartRequest [flagByte keep] s = ({ s with part.restartAsk := .asked keep }, [0x00]) := by
  simp only [restartRequest, readFlag_flagByte]
  rfl

theorem restartRequest_badValue {b : Byte} (s : State) (h : 1 < b.toNat) : restartRequest [b] s = (s, [0x21]) := by
  simp only [restartRequest, readFlag_eq_none h]
  rfl

/-- A reply leaves the part-wide block as the request left it. -/
theorem State.Answered.part_eq {u t : State} {kind tag : Byte} {reply : List Byte} (h : u.Answered t kind tag reply) :
    t.part = u.part := by
  obtain ⟨hapart, -⟩ := h
  exact (congrArg State.part hapart :)

/-- A RESTART that has been executed lets no request be owed (R162). -/
theorem State.not_owes_of_restartAsk {s : State} {kind tag : Byte} {payload : List Byte}
    (h : s.part.restartAsk ≠ .none) : ¬s.Owes kind tag payload := by
  rintro ⟨hdue, -⟩
  simp only [State.requestDue, Bool.and_eq_true, decide_eq_true_eq] at hdue
  exact h hdue.2

/-- Settles O25: the three requests, each by the value of its field and of what it writes. -/
theorem gateFreezeRestart : Obligations.GateFreezeRestart := by
  refine ⟨⟨fun s tag g howes => ⟨fun hsame => ?_, fun hother => ?_⟩, fun s tag b howes hb => ?_⟩,
    fun s tag howes => ⟨fun hfirst => ?_, fun hagain => ?_⟩, fun s tag keep howes => ?_, fun s tag b howes hb => ?_⟩
  · subst hsame
    exact ⟨_, rfl, howes.execute_answered (gateRequest_same s) rfl rfl⟩
  · exact ⟨_, rfl, howes.execute_answered (gateRequest_other hother) rfl rfl⟩
  · exact ⟨_, rfl, howes.execute_answered (gateRequest_badValue s hb) rfl rfl⟩
  · exact ⟨_, rfl, State.execute_answered howes (freezeRequest_first hfirst) rfl howes.restart_not_due⟩
  · exact ⟨_, rfl, howes.execute_answered (freezeRequest_again hagain) rfl rfl⟩
  · have hanswered := State.execute_answered howes (restartRequest_flagByte s keep) rfl rfl
    refine ⟨_, rfl, hanswered, fun kind' tag' payload' => State.not_owes_of_restartAsk ?_⟩
    rw [hanswered.part_eq]
    exact RestartAsk.noConfusion
  · exact ⟨_, rfl, howes.execute_answered (restartRequest_badValue s hb) rfl rfl⟩

/-! ### SET-SUPPLY (R17) -/

theorem readSupplyField_ofNat (k : SupplyId) : readSupplyField (BitVec.ofNat 8 (k.val + 1)) = some k := by
  revert k
  decide

/-- The ceiling depends on what each supply gives alone (R4, R5). -/
theorem ceilingFor_congr {ps qs : Vector Supply 4} (h : ∀ n, (ps.get n).share = (qs.get n).share) (reserve : Nat)
    (mode : BudgetMode) : ceilingFor ps reserve mode = ceilingFor qs reserve mode := by
  have hshares : ps.toList.map Supply.share = qs.toList.map Supply.share := by
    simp only [shares_eq_map_get, h]
  cases mode <;> simp only [ceilingFor, goodSum, goodMax, hshares]

/-- A supply that is not good gives nothing, whatever its capacity. -/
theorem Budget.computed_withCapacity_of_not_good {b : Budget} {k : SupplyId}
    (h : (b.supplies.get k).line.held = false) (capacity : Nat) : (b.withCapacity k capacity).computed = b.computed := by
  refine ceilingFor_congr (fun n => ?_) _ _
  rw [Budget.withCapacity, Vector.get_set_supply]
  split
  · next hn =>
      rw [hn, Supply.share_of_not_good h]
      exact Supply.share_of_not_good h
  · rfl

theorem Budget.withCapacity_self (b : Budget) (k : SupplyId) : b.withCapacity k (b.supplies.get k).capacity = b := by
  have hset : b.supplies.set k.val (b.supplies.get k) k.isLt = b.supplies := Vector.set_getElem_self _
  exact congrArg (fun supplies => ({ b with supplies := supplies } : Budget)) hset

/-- The ceiling that stays where it is changes nothing. -/
theorem State.ceilingFollows_of_stays {s : State} (h : s.budget.computed = s.budget.ceiling) : s.ceilingFollows = s := by
  unfold State.ceilingFollows
  rw [if_pos h, State.posting_nil, h]
  simp

theorem State.recompute_of_stays {s : State} (h : s.budget.computed = s.budget.ceiling) : s.recompute = s := by
  simp only [State.recompute, h, if_true]

theorem setSupplyRequest_badValue {n c1 c0 : Byte} (s : State)
    (h : n.toNat = 0 ∨ 4 < n.toNat ∨ 30000 < (c1 ++ c0 : Word16).toNat) :
    setSupplyRequest [n, c1, c0] s = (s, [0x21]) := by
  have hnone : readSupplyField n = none ∨ readRange 0 30000 (be16 c1 c0) = none := by
    rw [be16_eq_toNat_append]
    obtain h0 | h4 | hc := h
    · exact .inl (dif_neg (by omega))
    · exact .inl (dif_neg (by omega))
    · exact .inr (if_neg (by omega))
  obtain hk | hc := hnone
  · simp only [setSupplyRequest, hk]
    rfl
  · simp only [setSupplyRequest, hc]
    cases readSupplyField n <;> rfl

/-- SET-SUPPLY with its fields in range: the two checks, then the capacity written and the ceiling recomputed. -/
theorem setSupplyRequest_of_range {c1 c0 : Byte} (s : State) (k : SupplyId) (h : (c1 ++ c0 : Word16).toNat ≤ 30000) :
    setSupplyRequest [BitVec.ofNat 8 (k.val + 1), c1, c0] s =
      let b := s.budget.withCapacity k (c1 ++ c0 : Word16).toNat
      if s.part.frozen then (s, statusOnly .frozen)
      else if (s.budget.supplies.get k).line.held = true ∧ b.computed < s.budget.committed then
        (s, overCommittedReply b.computed s.budget.committed)
      else
        let s1 := ({ s with budget := b } : State).recompute
        (s1, statusOnly .ok ++ u32 s1.budget.ceiling) := by
  have hrange : readRange 0 30000 (be16 c1 c0) = some (c1 ++ c0 : Word16).toNat := by
    rw [be16_eq_toNat_append]
    exact if_pos ⟨Nat.zero_le _, h⟩
  simp only [setSupplyRequest, readSupplyField_ofNat, hrange]

/-- Settles O22: a field out of range, then the two checks in their order, then the capacity written with the ceiling
following. -/
theorem setSupply : Obligations.SetSupply := by
  refine ⟨fun s tag n c1 c0 howes hbad => ?_, ?_⟩
  · exact ⟨_, rfl, howes.execute_answered (setSupplyRequest_badValue s hbad) rfl rfl⟩
  · intro s tag c1 c0 k payload capacity old supplies would u howes hcapacity hceiling
    have hbody := setSupplyRequest_of_range s k hcapacity
    have hnotGood : old.line.held = false → would = s.budget.ceiling := fun hgood =>
      (Budget.computed_withCapacity_of_not_good hgood capacity).trans hceiling.symm
    refine ⟨fun hfrozen => ?_, fun hthawed hgood hover => ?_, fun hthawed hcovers => ?_, hnotGood, fun hsame => ?_⟩
    · exact ⟨_, rfl, howes.execute_answered (hbody.trans (if_pos hfrozen)) rfl rfl⟩
    · refine ⟨_, rfl, howes.execute_answered (hbody.trans ?_) rfl rfl⟩
      exact (if_neg (Bool.eq_false_iff.1 hthawed)).trans (if_pos ⟨hgood, hover⟩)
    · have hfollows : ({ s with budget := s.budget.withCapacity k capacity } : State).recompute = u := by
        obtain hgood | hcommitted := hcovers
        · have hstays : ({ s with budget := s.budget.withCapacity k capacity } : State).budget.computed =
              ({ s with budget := s.budget.withCapacity k capacity } : State).budget.ceiling := hnotGood hgood
          exact (State.recompute_of_stays hstays).trans (State.ceilingFollows_of_stays hstays).symm
        · exact State.recompute_eq_ceilingFollows hcommitted
      have hpasses : ¬((s.budget.supplies.get k).line.held = true ∧
          (s.budget.withCapacity k capacity).computed < s.budget.committed) := by
        rintro ⟨hheld, hover⟩
        obtain hgood | hcommitted := hcovers
        · exact Bool.noConfusion (hheld.symm.trans hgood)
        · exact Nat.not_lt.2 hcommitted hover
      have hwritten : setSupplyRequest payload s = (u, 0x00 :: u32 would) := by
        refine hbody.trans ((if_neg (Bool.eq_false_iff.1 hthawed)).trans ((if_neg hpasses).trans ?_))
        exact congrArg (fun t : State => (t, 0x00 :: u32 t.budget.ceiling)) hfollows
      exact ⟨_, rfl, howes.execute_answered hwritten rfl rfl⟩
    · have hkept : s.budget.withCapacity k capacity = s.budget := by
        rw [← hsame]
        exact s.budget.withCapacity_self k
      have hu : u = ({ s with budget := s.budget.withCapacity k capacity } : State).ceilingFollows := rfl
      rw [hu, hkept]
      exact State.ceilingFollows_of_stays hceiling.symm

end Sys2Proof.Machine
end

section
set_option Elab.async false -- few threads at a time: each takes its stack from the check's memory
/-! PROOFS. The message port (chapter 9): the receiver byte by byte (R156 to R158), the link reset (R164, R165), the offer to
the transmit arbiter (R152, R153, R163), and the end of a frame (R162, R163, R184). -/
namespace Sys2Proof.Machine

/-- A happening that arises takes its effect, and the arbiter then makes its offer. -/
theorem State.happen_of_arises {s : State} {arises : Bool} (effect : State) (h : arises = true) :
    s.happen arises effect = .next effect.finish :=
  if_pos h

/-! ### The receiver (R156 to R158) -/

/-- A character that makes no frame ready is taken by the receiver alone. -/
theorem exec_byteReceived_of_receive {s : State} {b : Byte} {p : Port} (hreceive : s.port.receive b = p)
    (hquiet : p.offerDue = false) : exec (.byteReceived b) s = .next { s with port := p } := by
  rw [exec_byteReceived, hreceive, State.finish_of_no_offer _ hquiet]

/-- Settles O26: the receiver by its state, then the three ways in which a frame is abandoned or goes on. -/
theorem receiverRuns : Obligations.ReceiverRuns := by
  refine ⟨?_, fun s hquiet => ?_, fun s hquiet hrunning hgap => ⟨?_, ?_⟩, fun s hstays hdue => ?_⟩
  · intro s b hquiet p
    refine ⟨fun hhunt => ?_, fun hlen hshort => ?_, fun hlen hlong => ?_, fun len htag => ?_, fun len tag hkind => ?_,
      fun len tag kind taken due hbody => ?_, fun len tag kind payload hhigh => ?_⟩
    · refine exec_byteReceived_of_receive ?_ hquiet
      simp only [Port.receive, hhunt]
      split <;> rfl
    · refine exec_byteReceived_of_receive ?_ hquiet
      simp only [Port.receive, hlen, if_neg (Nat.not_lt.2 hshort), p]
    · refine exec_byteReceived_of_receive ?_ hquiet
      simp only [Port.receive, hlen, if_pos hlong, p]
      rfl
    · refine exec_byteReceived_of_receive ?_ hquiet
      simp only [Port.receive, htag, p]
    · have hzero : len.toNat = 0 ↔ len = 0 := ⟨fun h => BitVec.eq_of_toNat_eq h, fun h => h ▸ rfl⟩
      refine exec_byteReceived_of_receive ?_ hquiet
      simp only [Port.receive, hkind, Receiver.afterKind, hzero, p]
    · refine exec_byteReceived_of_receive ?_ hquiet
      simp only [Port.receive, hbody, Receiver.afterPayload_succ, Receiver.awaiting, p]
    · refine exec_byteReceived_of_receive ?_ hquiet
      simp only [Port.receive, hhigh, p]
  · exact congrArg Host.Outcome.next (State.finish_of_no_offer _ hquiet)
  · exact State.mem_dueHappenings.2 ⟨hrunning, hgap⟩
  · refine (State.happen_of_arises _ (Port.gapDue_iff.2 ⟨hrunning, hgap⟩)).trans ?_
    exact congrArg Host.Outcome.next (State.finish_of_no_offer _ hquiet)
  · obtain ⟨hrunning, hgap⟩ : s.Due .gapAbort := State.mem_dueHappenings.1 hdue
    obtain hhunt | hearly := hstays
    · exact hrunning hhunt
    · exact Nat.not_le.2 hearly hgap

/-! ### The offer (R152, R153, R163) -/

/-- The notice frame of an entry, its outcome read off the slot that an OP_DONE names (R153). -/
theorem State.noticeFrame_eq (s : State) (n : Notice) :
    let last := if n.kind = .opDone then n.subject.bind fun i => (s.slot i).lastOutcome else none
    s.noticeFrame n =
      ⟨n.subject, .event n.kind, n.count, n.stamp, n.subject.map fun i => (s.slot i).power,
        (last.map (·.ticket)).getD 0, last.map (·.outcome)⟩ := by
  intro last
  cases hsubject : n.subject with
  | none =>
    have hlast : last = none := by simp [last, hsubject]
    simp [State.noticeFrame, hsubject, hlast]
  | some i =>
    have hlast : last = if n.kind = .opDone then (s.slot i).lastOutcome else none := by simp [last, hsubject]
    simp only [State.noticeFrame, hsubject, ← hlast, Option.map_some]
    cases last <;> rfl

theorem State.finish_of_offer {s : State} (h : s.port.offerDue = true) :
    s.finish = ({ s with port.offerDue := false } : State).offer :=
  if_pos h

/-- A line that is not idle takes no frame (R163). -/
theorem State.offer_of_busy {s : State} (h : s.lineIdle = false) : s.offer = s :=
  if_neg (Bool.eq_false_iff.1 h)

theorem State.offer_of_reject {s : State} {rest : List Ready} {status : Status} {tag : Byte} (hidle : s.lineIdle = true)
    (hready : s.port.ready = .reject status tag :: rest) :
    s.offer = { s with port.ready := rest, port.sending := some (.reject status tag) } := by
  simp only [State.offer, hidle, if_true, hready]

/-- Among requests with different tags the one with a tag is found. -/
theorem find_tag_of_mem {l : List Request} {r : Request} (hnodup : (l.map (·.tag)).Nodup) (hr : r ∈ l) :
    l.find? (fun x => decide (x.tag = r.tag)) = some r := by
  cases hfind : l.find? (fun x => decide (x.tag = r.tag)) with
  | none => simpa using List.find?_eq_none.1 hfind r hr
  | some x =>
    have htag : x.tag = r.tag := by simpa using List.find?_some hfind
    rw [eq_of_tag_eq hnodup (List.mem_of_find?_eq_some hfind) hr htag]

/-- The reply that waits first starts on an idle line, and its request leaves the queue (R161, R163). -/
theorem State.offer_of_reply {s : State} {rest : List Ready} {r : Request} {bytes : List Byte} (hidle : s.lineIdle = true)
    (hready : s.port.ready = .reply r.tag :: rest) (hr : r ∈ s.port.requests) (hreply : r.reply = some bytes)
    (hnodup : (s.port.requests.map (·.tag)).Nodup) :
    s.offer =
      { s with
        port := { s.port with
          ready := rest, requests := s.port.requests.filter fun x => decide (x.tag ≠ r.tag)
          sending := some (.reply r.kind r.tag bytes) } } := by
  obtain ⟨tag, kind, payload, reply⟩ := r
  subst hreply
  simp only [State.offer, hidle, if_true, hready]
  rw [Port.startReply_eq hready hnodup]
  simp only [Port.startsFirst, hready, find_tag_of_mem hnodup hr]

/-- An idle line with no reply or reject waiting takes a notice where the credit allows one (R152, R163). -/
theorem State.offer_of_nothing_ready {s : State} (hidle : s.lineIdle = true) (hready : s.port.ready = []) :
    s.offer = if 1 ≤ s.port.credit then s.startNotice else s := by
  simp only [State.offer, hidle, if_true, hready]

theorem State.startNotice_of_overflow {s : State} (hover : s.events.overflow = true) (hnew : s.events.announced = false) :
    s.startNotice =
      { s with
        events.announced := true
        port.credit := s.port.credit - 1
        port.sending := some (.notice s.events.overflowFrame) } :=
  if_pos ⟨hover, hnew⟩

theorem State.startNotice_of_head {s : State} {n : Notice} {rest : List Notice}
    (hover : ¬(s.events.overflow = true ∧ s.events.announced = false)) (hnotices : s.events.notices = n :: rest) :
    s.startNotice =
      { s with
        events.notices := rest
        port.credit := s.port.credit - 1
        port.sending := some (.notice (s.noticeFrame n)) } := by
  simp only [State.startNotice, if_neg hover, hnotices]

theorem State.startNotice_of_none {s : State} (hover : ¬(s.events.overflow = true ∧ s.events.announced = false))
    (hnotices : s.events.notices = []) : s.startNotice = s := by
  simp only [State.startNotice, if_neg hover, hnotices]

/-- Settles O30: the line not idle, a reply or a reject waiting, and then the event unit's choice. -/
theorem arbiterOffers : Obligations.ArbiterOffers := by
  intro s hoffer s0
  rw [State.finish_of_offer hoffer]
  refine ⟨fun hbusy => State.offer_of_busy hbusy, fun hidle rest r hr bytes hready hreply hnodup => ?_,
    fun hidle rest status tag hready => ?_, fun hidle hready hcredit hover hnew => ?_,
    fun hidle hready hcredit hover n rest hnotices => ?_, fun hidle hready hlapses => ?_⟩
  · exact State.offer_of_reply (s := s0) hidle hready hr hreply hnodup
  · exact State.offer_of_reject (s := s0) hidle hready
  · exact (State.offer_of_nothing_ready (s := s0) hidle hready).trans
      ((if_pos hcredit).trans (State.startNotice_of_overflow hover hnew))
  · refine (State.offer_of_nothing_ready (s := s0) hidle hready).trans
      ((if_pos hcredit).trans ((State.startNotice_of_head (s := s0) hover hnotices).trans ?_))
    rw [State.noticeFrame_eq]
    rfl
  · refine (State.offer_of_nothing_ready (s := s0) hidle hready).trans ?_
    obtain hnone | ⟨hnotices, hover⟩ := hlapses
    · exact if_neg (Nat.not_le.2 (Nat.lt_one_iff.2 hnone))
    · split
      · exact State.startNotice_of_none hover hnotices
      · rfl

/-! ### The link reset (R164, R165) -/

theorem RestartAsk.becomeDue_eq (a : RestartAsk) :
    a.becomeDue = match a with | .none => .none | .asked k => .due k | .due k => .due k := by
  cases a <;> rfl

/-- While LINK_RX stays at space no frame starts (R164). -/
theorem State.finish_sending_of_held {v : State} (h : v.port.rxHeld = true) : v.finish.port.sending = v.port.sending := by
  unfold State.finish
  split
  · have hbusy : ({ v with port.offerDue := false } : State).lineIdle = false := by
      simp [State.lineIdle, h]
    rw [State.offer_of_busy hbusy]
  · rfl

/-- Settles O29: the state after the reset is written down; nothing waits in its port. -/
theorem linkReset : Obligations.LinkReset := by
  intro s
  refine ⟨_, rfl, rfl, RestartAsk.becomeDue_eq _, rfl, ?_, fun k hasked => ?_, fun v => State.finish_sending_of_held⟩
  · rintro kind tag payload ⟨hdue, -⟩
    simp [State.requestDue, Port.nextRequest, Port.linkReset] at hdue
  · refine State.mem_dueHappenings.2 ?_
    simp only [State.Due, hasked, RestartAsk.becomeDue]
    cases k <;> simp

/-! ### The end of a frame (R162, R163, R184) -/

theorem TxFrame.isRestartReply_iff {f : TxFrame} : f.isRestartReply = true ↔ ∃ tag, f = .reply 0x7F tag [0x00] := by
  cases f with
  | reply kind tag payload =>
    simp only [TxFrame.isRestartReply, statusOnly, Status.code, Bool.and_eq_true, decide_eq_true_eq, TxFrame.reply.injEq]
    exact ⟨fun ⟨hkind, hpayload⟩ => ⟨tag, hkind, rfl, of_decide_eq_true hpayload⟩,
      fun ⟨_, hkind, _, hpayload⟩ => ⟨hkind, decide_eq_true hpayload⟩⟩
  | reject status tag => simp [TxFrame.isRestartReply]
  | notice n => simp [TxFrame.isRestartReply]

/-- Settles O31: the frame that ends is the OK reply of a RESTART, or another. -/
theorem frameEnds : Obligations.FrameEnds := by
  refine ⟨fun s f hsending hother => ?_, fun s tag keep hsending hquiet hasked => ⟨?_, ?_⟩⟩
  · have hends : s.endFrame = { s with port.sending := none, port.offerDue := true } := by
      have hnot : ¬f.isRestartReply = true := by
        rw [TxFrame.isRestartReply_iff]
        rintro ⟨tag, rfl⟩
        exact hother tag rfl
      simp only [State.endFrame, hsending, if_neg hnot]
    refine (State.happen_of_arises _ (by rw [hsending]; rfl)).trans ?_
    rw [hends]
  · have hends : s.endFrame = { s with port.sending := none, part.restartAsk := .due keep } := by
      have hreply : (TxFrame.reply 0x7F tag [0x00]).isRestartReply = true := TxFrame.isRestartReply_iff.2 ⟨tag, rfl⟩
      simp only [State.endFrame, hsending, if_pos hreply, hasked, RestartAsk.becomeDue]
    refine (State.happen_of_arises _ (by rw [hsending]; rfl)).trans ?_
    rw [hends]
    exact congrArg Host.Outcome.next (State.finish_of_no_offer _ hquiet)
  · refine State.mem_dueHappenings.2 ?_
    cases keep <;> simp [State.Due]

end Sys2Proof.Machine
end

section
set_option Elab.async false -- few threads at a time: each takes its stack from the check's memory
/-! PROOFS. Power sequencing and faults (chapters 3 and 5): the ends of the power-on stages (R51, R56 to R59), the settle time
(R14, R58), the ends of a drain (R70 to R73), the stage deadlines (R61, R93), and the OVERCURRENT and RAIL_LOST faults (R94,
R95, R99). -/
namespace Sys2Proof.Machine

/-! ### Happenings and lines, in the form -/

/-- A happening that does not arise changes nothing. -/
theorem State.happen_of_not {s : State} {arises : Bool} (effect : State) (h : arises = false) :
    s.happen arises effect = .next s :=
  if_neg (Bool.eq_false_iff.1 h)

/-- A happening that arises, with its effect known. -/
theorem State.happen_eq {s effect u : State} {arises : Bool} (h : arises = true) (heffect : effect = u) :
    s.happen arises effect = .next u.finish :=
  heffect ▸ State.happen_of_arises effect h

/-- A slot record with other lines. -/
def Slot.withLines (sl : Slot) (l : BayLines) : Slot := { sl with lines := l }

/-- A change of a slot's lines is the form without occurrences. -/
theorem State.updLines_eq_becomes (s : State) (i : SlotId) (f : BayLines → BayLines) :
    s.updLines i f = s.becomes i ((s.slot i).withLines (f (s.slot i).lines)) [] :=
  s.upd_eq_becomes i fun sl => sl.withLines (f sl.lines)

theorem State.profileOf_becomes (b : State) (i : SlotId) (sl : Slot) (os : List Occurrence) :
    (b.becomes i sl os).profileOf i = b.profiles.get sl.profileIndex := by
  rw [State.profileOf, State.slot_becomes_same]
  rfl

/-! ### The ends of the power-on stages (R56 to R59) -/

/-- A slot record whose AUX_RAMP ends (R56). -/
def Slot.auxRamped (sl : Slot) (p : Profile) (byDueEnd : Bool) : Slot :=
  { sl.inStage .mainRamp (timeoutMs p.mainCode) p.readyRequired sl.lines.mainGood.held with
    auxLostDue := byDueEnd && !sl.lines.auxGood.held }

/-- A slot record whose MAIN_RAMP ends (R57). -/
def Slot.mainRamped (sl : Slot) (p : Profile) (byDueEnd : Bool) : Slot :=
  { sl.inStage .settle (settleTimer p.settleMs) p.readyRequired (decide (p.settleMs = 0)) with
    mainLostDue := byDueEnd && !sl.lines.mainGood.held }

/-- A slot record that has reached ON, its operation apart (R58, R59). -/
def Slot.switchedOn (sl : Slot) (readyRequired : Bool) : Slot := sl.inStage .on none readyRequired false

theorem State.endAuxRamp_eq_becomes (s : State) (i : SlotId) (byDueEnd : Bool) :
    s.endAuxRamp i byDueEnd = s.becomes i ((s.slot i).auxRamped (s.profileOf i) byDueEnd) [] :=
  s.upd_eq_becomes i fun sl => sl.auxRamped (s.profileOf i) byDueEnd

theorem State.endAuxRamp_becomes (b : State) (i : SlotId) (sl : Slot) (os : List Occurrence) (byDueEnd : Bool) :
    (b.becomes i sl os).endAuxRamp i byDueEnd =
      b.becomes i (sl.auxRamped (b.profiles.get sl.profileIndex) byDueEnd) os := by
  unfold State.endAuxRamp
  rw [State.profileOf_becomes]
  exact State.upd_becomes b i sl _ os _ (fun _ _ _ => rfl) rfl

theorem State.endMainRamp_eq_becomes (s : State) (i : SlotId) (byDueEnd : Bool) :
    s.endMainRamp i byDueEnd = s.becomes i ((s.slot i).mainRamped (s.profileOf i) byDueEnd) [] :=
  s.upd_eq_becomes i fun sl => sl.mainRamped (s.profileOf i) byDueEnd

theorem State.endMainRamp_becomes (b : State) (i : SlotId) (sl : Slot) (os : List Occurrence) (byDueEnd : Bool) :
    (b.becomes i sl os).endMainRamp i byDueEnd =
      b.becomes i (sl.mainRamped (b.profiles.get sl.profileIndex) byDueEnd) os := by
  unfold State.endMainRamp
  rw [State.profileOf_becomes]
  exact State.upd_becomes b i sl _ os _ (fun _ _ _ => rfl) rfl

theorem State.reachOn_eq_becomes (s : State) (i : SlotId) (readyRequired : Bool) :
    s.reachOn i readyRequired =
      s.becomes i (((s.slot i).switchedOn readyRequired).ended .done s.part.uptime) ((s.slot i).endPosts i) := by
  rw [State.reachOn, State.upd_eq_becomes, State.endOperation_becomes]
  rfl

theorem State.reachOn_becomes (b : State) (i : SlotId) (sl : Slot) (os : List Occurrence) (readyRequired : Bool) :
    (b.becomes i sl os).reachOn i readyRequired =
      b.becomes i ((sl.switchedOn readyRequired).ended .done b.part.uptime) (os ++ sl.endPosts i) := by
  have hon : (b.becomes i sl os).upd i (fun sl => sl.inStage .on none readyRequired false) =
      b.becomes i (sl.switchedOn readyRequired) os :=
    State.upd_becomes b i sl _ os _ (fun _ _ _ => rfl) rfl
  rw [State.reachOn, hon, State.endOperation_becomes]
  rfl

theorem State.endReadyWait_becomes (b : State) (i : SlotId) (sl : Slot) (os : List Occurrence) :
    (b.becomes i sl os).endReadyWait i =
      b.becomes i ((sl.switchedOn sl.readyRequired).ended .done b.part.uptime) (os ++ sl.endPosts i) := by
  have hready : ((b.becomes i sl os).slot i).readyRequired = sl.readyRequired := by
    rw [State.slot_becomes_same]
    rfl
  rw [State.endReadyWait, hready, State.reachOn_becomes]

/-- Settles O38: each rise by whether the slot is in its stage, and the due end by the stage it ends. -/
theorem stagesEnd : Obligations.StagesEnd := by
  refine ⟨?_, ?_⟩
  · intro s i sl p aux main ready
    refine ⟨fun hdown hpower => ?_, fun hdown hpower => ?_, fun hdown hpower => ?_, fun hdown hpower => ?_,
      fun hdown hpower => ?_, fun hdown hpower => ?_⟩ <;>
      refine State.happen_eq (by rw [hdown]; rfl) ?_
    · rw [State.auxGoodRise, if_pos hpower, State.takeAuxGood, State.updLines_eq_becomes, State.endAuxRamp_becomes]
      rfl
    · rw [State.auxGoodRise, if_neg hpower, State.takeAuxGood, State.updLines_eq_becomes]
      rfl
    · rw [State.mainGoodRise, if_pos hpower, State.takeMainGood, State.updLines_eq_becomes, State.endMainRamp_becomes]
      rfl
    · rw [State.mainGoodRise, if_neg hpower, State.takeMainGood, State.updLines_eq_becomes]
      rfl
    · rw [State.readyRise, if_pos hpower, State.takeReady, State.updLines_eq_becomes, State.endReadyWait_becomes]
      rfl
    · rw [State.readyRise, if_neg hpower, State.takeReady, State.updLines_eq_becomes]
      rfl
  · intro s i sl p
    refine ⟨fun hdue hpower => ?_, fun hdue hpower => ?_, fun hdue hpower => ?_, fun hpower => ?_⟩
    · refine State.happen_eq (by rw [hdue, hpower]; rfl) ?_
      rw [State.stageEnd, hpower]
      exact State.endAuxRamp_eq_becomes s i true
    · refine State.happen_eq (by rw [hdue, hpower]; rfl) ?_
      rw [State.stageEnd, hpower]
      exact State.endMainRamp_eq_becomes s i true
    · refine State.happen_eq (by rw [hdue, hpower]; rfl) ?_
      rw [State.stageEnd, hpower]
      exact State.reachOn_eq_becomes s i sl.readyRequired
    · refine State.happen_of_not _ ?_
      have hleft : sl.power.ramping = false := by
        obtain h | h | h | h | h | h := hpower <;> rw [h] <;> rfl
      rw [hleft, Bool.and_false]

/-! ### The settle time (R14, R58) -/

/-- The state with the inrush position of a slot's commitment freed and a pass due, the slot's own record apart (R14). -/
def State.afterSettle (s : State) (i : SlotId) : State :=
  { s with
    admission.inrushHeld := s.admission.inrushHeld - (if (s.slot i).commitment.any (·.inrush) then 1 else 0)
    admission.passDue := true }

/-- A slot record whose commitment has freed its inrush position (R14). -/
def Slot.inrushFreed (sl : Slot) : Slot := { sl with commitment := sl.commitment.map fun c => { c with inrush := false } }

/-- The release of the inrush position and a record update that keeps the pending set (R14, R58), in the form. -/
theorem State.freeInrush_upd_eq_becomes (s : State) (i : SlotId) (f : Slot → Slot)
    (hf : ∀ (r : Slot) p x y, (f (({ r with pendingSet := p } : Slot).driven x y)).driven x y =
      ({ f r with pendingSet := p } : Slot).driven x y) (hp : ∀ r, (f r).pendingSet = r.pendingSet) :
    ((s.freeInrush i).markPass).upd i f = (s.afterSettle i).becomes i (f (s.slot i).inrushFreed) [] := by
  cases hc : (s.slot i).commitment with
  | none =>
    have hfreed : (s.slot i).inrushFreed = s.slot i := by
      simp only [Slot.inrushFreed, hc, Option.map_none]
      rw [← hc]
    have hbase : (s.freeInrush i).markPass = s.afterSettle i := by
      simp only [State.freeInrush, hc, State.markPass, State.afterSettle, Option.any_none, Bool.false_eq_true, if_false,
        Nat.sub_zero]
    rw [hbase, hfreed]
    exact (s.afterSettle i).upd_eq_becomes i f
  | some c =>
    have hbase : (s.freeInrush i).markPass = (s.afterSettle i).becomes i (s.slot i).inrushFreed [] := by
      have hheld : (if c.inrush = true then s.admission.inrushHeld - 1 else s.admission.inrushHeld) =
          s.admission.inrushHeld - (if c.inrush = true then 1 else 0) := by
        split <;> rfl
      simp only [State.freeInrush, hc, State.upd_eq_becomes, State.markPass_becomes]
      simp only [State.markPass, State.afterSettle, Slot.inrushFreed, hc, Option.any_some, Option.map_some, hheld]
      rfl
    rw [hbase]
    exact State.upd_becomes _ i _ _ [] f (hf _) (hp _)

/-- The end of the settle time (R14, R58), in the form. -/
theorem State.endSettle_eq_becomes (s : State) (i : SlotId) :
    s.endSettle i = (s.afterSettle i).becomes i ((s.slot i).settled (s.profileOf i) s.part.uptime)
      (if (s.profileOf i).readyRequired then [] else (s.slot i).endPosts i) := by
  unfold State.endSettle
  cases hready : (s.profileOf i).readyRequired with
  | true =>
    simp only [Slot.settled, hready, if_true]
    exact State.freeInrush_upd_eq_becomes s i
      (fun sl => sl.inStage .readyWait (timeoutMs (s.profileOf i).readyCode) true sl.lines.ready.held)
      (fun _ _ _ _ => rfl) fun _ => rfl
  | false =>
    have hon := State.freeInrush_upd_eq_becomes s i (fun sl => sl.inStage .on none false false) (fun _ _ _ _ => rfl)
      fun _ => rfl
    simp only [Slot.settled, hready, Bool.false_eq_true, if_false]
    rw [State.reachOn, hon, State.endOperation_becomes]
    rfl

/-- Settles O39: the two commands that end the settle time take the same effect. -/
theorem settleTimeEnds : Obligations.SettleTimeEnds := by
  rintro s i c sl p hpower (⟨rfl, htimer⟩ | ⟨rfl, hdue⟩)
  · exact State.happen_eq (decide_eq_true ⟨hpower, htimer⟩) (State.endSettle_eq_becomes s i)
  · refine State.happen_eq (by rw [hdue, hpower]; rfl) ?_
    rw [State.stageEnd, hpower]
    exact State.endSettle_eq_becomes s i

/-! ### The ends of a drain (R70 to R73) -/

theorem State.endDrain_eq_becomes (s : State) (i : SlotId) (outcome : OutcomeKind) :
    s.endDrain i outcome =
      (s.afterRelease i).becomes i (((s.slot i).off .idle).ended outcome s.part.uptime) ((s.slot i).endPosts i) := by
  rw [State.endDrain, State.cut_eq_becomes, State.endOperation_becomes, State.afterRelease_part]
  rfl

/-- Settles O40: the fall of READY by whether it ends the drain, then the two ends that come of themselves. -/
theorem drainEnds : Obligations.DrainEnds := by
  intro s i sl down ends
  refine ⟨fun hready hpower hrequired => ?_, fun hready hother => ?_, fun hpower htimer => ?_, fun hpower hdue => ?_⟩
  · refine State.happen_eq hready ?_
    rw [State.readyFall, if_pos ⟨hpower, hrequired⟩, State.takeReady, State.updLines_eq_becomes]
    exact State.endDrain_becomes s i down [] .done rfl
  · refine State.happen_eq hready ?_
    have hnot : ¬(sl.power = .drain ∧ sl.readyRequired = true) := by
      rintro ⟨hdrain, hrequired⟩
      exact hother.elim (fun h => h hdrain) fun h => Bool.noConfusion (hrequired.symm.trans h)
    rw [State.readyFall, if_neg hnot, State.takeReady, State.updLines_eq_becomes]
    rfl
  · exact State.happen_eq (decide_eq_true ⟨hpower, htimer⟩) (State.endDrain_eq_becomes s i _)
  · exact State.happen_eq (by rw [hdue, hpower]; rfl) (State.endDrain_eq_becomes s i .done)

/-! ### The stage deadlines (R61, R93) -/

/-- A record update does not look at whether the record has been driven again first. -/
theorem State.upd_becomes_self (s : State) (i : SlotId) (f : Slot → Slot)
    (hf : ∀ p x y, (f (({ s.slot i with pendingSet := p } : Slot).driven x y)).driven x y =
      ({ f (s.slot i) with pendingSet := p } : Slot).driven x y) (hp : (f (s.slot i)).pendingSet = (s.slot i).pendingSet) :
    (s.becomes i (s.slot i) []).upd i f = s.upd i f :=
  (State.upd_becomes s i _ _ [] f hf hp).trans (s.upd_eq_becomes i f).symm

/-- A fault (R99) on any state. -/
theorem State.raiseFault_eq_becomes (s : State) (i : SlotId) (kind : FaultKind) :
    s.raiseFault i kind =
      (s.afterRelease i).becomes i ((s.slot i).faulted kind s.part.uptime)
        ((s.slot i).endPosts i ++ [(some i, .fault)]) := by
  have hself : s.raiseFault i kind = (s.becomes i (s.slot i) []).raiseFault i kind := by
    have hrecord : ∀ r : FaultRecord, (s.becomes i (s.slot i) []).upd i
        (fun sl => { sl with lastFault := some r, faultCount := satInc 255 sl.faultCount }) =
        s.upd i (fun sl => { sl with lastFault := some r, faultCount := satInc 255 sl.faultCount }) := fun r =>
      s.upd_becomes_self i _ (fun _ _ _ => rfl) rfl
    unfold State.raiseFault
    simp only [hrecord, State.slot_becomes_power, State.slot_becomes_opTicket, State.becomes_part]
  rw [hself, State.raiseFault_becomes s i _ [] kind rfl]
  rfl

/-- Settles O41: when the deadline is due, and the fault of each of the three stages. -/
theorem stageDeadlinesFault : Obligations.StageDeadlinesFault := by
  intro s i sl
  refine ⟨State.mem_dueHappenings, fun kind hstage htimer => ?_⟩
  have hfault : sl.power.timeoutFault = some kind := by
    simp only [List.mem_cons, Prod.mk.injEq, List.not_mem_nil, or_false] at hstage
    obtain ⟨hpower, rfl⟩ | ⟨hpower, rfl⟩ | ⟨hpower, rfl⟩ := hstage <;> rw [hpower] <;> rfl
  refine State.happen_eq (by rw [htimer, hfault]; rfl) ?_
  simp only [State.deadlineExpiry, show (s.slot i).power.timeoutFault = some kind from hfault]
  exact State.raiseFault_eq_becomes s i kind

/-! ### OVERCURRENT and RAIL_LOST (R94, R95, R99) -/

/-- The due marks play no part in a fault. -/
theorem Slot.faulted_congr {a b : Slot} (h : a.off .faulted = b.off .faulted) (hpower : a.power = b.power)
    (kind : FaultKind) (now : Word32) : a.faulted kind now = b.faulted kind now := by
  have hop : a.operation = b.operation := (congrArg Slot.operation h :)
  have hcount : a.faultCount = b.faultCount := (congrArg Slot.faultCount h :)
  simp only [Slot.faulted, h, hpower, hop, hcount]

theorem PowerState.railEnabled_iff (st : PowerState) (rail : Rail) :
    st.railEnabled rail = true ↔ st ∈ (match rail with
      | .aux => [.auxRamp, .mainRamp, .settle, .readyWait, .on, .drain]
      | .main => [.mainRamp, .settle, .readyWait, .on, .drain] : List PowerState) := by
  cases rail <;> cases st <;> decide

theorem PowerState.railUp_iff (st : PowerState) (rail : Rail) :
    st.railUp rail = true ↔ st ∈ (match rail with
      | .aux => [.mainRamp, .settle, .readyWait, .on, .drain]
      | .main => [.settle, .readyWait, .on, .drain] : List PowerState) := by
  cases rail <;> cases st <;> decide

/-- A record update and then a fault (R99), in the form. -/
theorem State.raiseFault_upd (s : State) (i : SlotId) {sl : Slot} (kind : FaultKind)
    (hc : sl.commitment = (s.slot i).commitment) (ho : sl.operation = (s.slot i).operation) :
    (s.becomes i sl []).raiseFault i kind =
      (s.afterRelease i).becomes i (sl.faulted kind s.part.uptime) ((s.slot i).endPosts i ++ [(some i, .fault)]) := by
  have hposts : sl.endPosts i = (s.slot i).endPosts i := by rw [Slot.endPosts, ho, Slot.endPosts]
  rw [State.raiseFault_becomes s i sl [] kind hc, hposts]
  rfl

/-- The lines of a slot with a rail's good line down. -/
def BayLines.railDown (l : BayLines) : Rail → BayLines
  | .aux => { l with auxGood := .take false }
  | .main => { l with mainGood := .take false }

theorem State.takeRailDown_eq_becomes (s : State) (i : SlotId) (rail : Rail) :
    s.takeRailDown i rail = s.becomes i ((s.slot i).withLines ((s.slot i).lines.railDown rail)) [] := by
  cases rail with
  | aux => exact State.updLines_eq_becomes s i fun l => l.railDown .aux
  | main => exact State.updLines_eq_becomes s i fun l => l.railDown .main

/-- Settles O42: the four happenings, each by whether it finds what makes it a fault. -/
theorem linesFault : Obligations.LinesFault := by
  intro s i rail sl enabled railEnabled up good due risen fallen taken faults
  have henabled : sl.power.powered = true ↔ enabled := sl.power.powered_iff
  have hrail : sl.power.railEnabled rail = true ↔ railEnabled := sl.power.railEnabled_iff rail
  have hup : sl.power.railUp rail = true ↔ up := sl.power.railUp_iff rail
  have hgood : sl.lines.railGood rail = good := by cases rail <;> rfl
  have hdue : sl.railLostDue rail = due := by cases rail <;> rfl
  refine ⟨fun hpowered => ?_, fun hdead => ?_, fun hmark hpowered hfault => ?_, fun hmark hgone => ?_,
    fun hheld hrisen => ?_, fun hheld hlow => ?_, fun hmark hpowered hdown => ?_, fun hmark hgone => ?_⟩
  · have heffect : s.faultLineRise i = faults risen .overcurrent := by
      rw [State.faultLineRise, if_pos (henabled.2 hpowered), State.takeFault, State.updLines_eq_becomes]
      exact State.raiseFault_upd s i .overcurrent rfl rfl
    exact congrArg (fun t : State => Host.Outcome.next t.finish) heffect
  · have heffect : s.faultLineRise i = s.becomes i risen [] := by
      rw [State.faultLineRise, if_neg (mt henabled.1 hdead), State.takeFault, State.updLines_eq_becomes]
      rfl
    exact congrArg (fun t : State => Host.Outcome.next t.finish) heffect
  · refine State.happen_eq hmark ?_
    rw [State.dueOvercurrent, if_pos ⟨henabled.2 hpowered, hfault⟩, State.upd_eq_becomes,
      State.raiseFault_upd (sl := { sl with overcurrentDue := false }) s i .overcurrent rfl rfl,
      Slot.faulted_congr (a := { sl with overcurrentDue := false }) (b := sl) rfl rfl]
  · have hnot : ¬(sl.power.powered = true ∧ sl.lines.fault.held = true) := by
      rw [henabled, not_and_or, Bool.not_eq_true]
      exact hgone
    refine State.happen_eq hmark ?_
    rw [State.dueOvercurrent, if_neg hnot, State.upd_eq_becomes]
  · refine State.happen_eq (hgood.trans hheld) ?_
    rw [State.railFall, if_pos (hup.2 hrisen), State.takeRailDown_eq_becomes,
      State.raiseFault_upd (sl := sl.withLines (sl.lines.railDown rail)) s i .railLost rfl rfl]
    cases rail <;> rfl
  · refine State.happen_eq (hgood.trans hheld) ?_
    rw [State.railFall, if_neg (mt hup.1 hlow), State.takeRailDown_eq_becomes]
    cases rail <;> rfl
  · refine State.happen_eq (hdue.trans hmark) ?_
    rw [State.dueRailLost, if_pos ⟨hrail.2 hpowered, hgood.trans hdown⟩, State.upd_eq_becomes,
      State.raiseFault_upd (sl := sl.withoutRailLost rail) s i .railLost (by cases rail <;> rfl)
        (by cases rail <;> rfl),
      Slot.faulted_congr (a := sl.withoutRailLost rail) (b := sl) (by cases rail <;> rfl) (by cases rail <;> rfl)]
  · have hnot : ¬(sl.power.railEnabled rail = true ∧ sl.lines.railGood rail = false) := by
      rw [hrail, hgood, not_and_or, Bool.not_eq_false]
      exact hgone
    refine State.happen_eq (hdue.trans hmark) ?_
    rw [State.dueRailLost, if_neg hnot, State.upd_eq_becomes]
    cases rail <;> rfl

end Sys2Proof.Machine
end

section
set_option Elab.async false -- few threads at a time: each takes its stack from the check's memory
/-! PROOFS. The bay (chapter 6): insertion and removal (R110 to R113), the lever (R115), the button (R116, R117), the lock
sense and the ends of lock operations (R123, R126). In a disabled slot a line changes and nothing else (R128). -/
namespace Sys2Proof.Machine

/-! ### The operations of the bay, in the form -/

theorem State.cancelHoldOff_becomes (b : State) (i : SlotId) (sl : Slot) (os : List Occurrence) :
    (b.becomes i sl os).cancelHoldOff i = b.becomes i sl.windowless os :=
  State.upd_becomes b i sl _ os _ (fun _ _ _ => rfl) rfl

theorem State.vacate_becomes (b : State) (i : SlotId) (sl : Slot) (os : List Occurrence) :
    (b.becomes i sl os).upd i Slot.vacated = b.becomes i sl.vacated os :=
  State.upd_becomes b i sl _ os _ (fun _ _ _ => rfl) rfl

/-- A slot record without a class (R110). -/
def Slot.classless (sl : Slot) : Slot := { sl with moduleClass := none }

theorem State.dropClass_becomes (b : State) (i : SlotId) (sl : Slot) (os : List Occurrence) :
    (b.becomes i sl os).dropClass i = b.becomes i sl.classless os :=
  State.upd_becomes b i sl _ os _ (fun _ _ _ => rfl) rfl

/-- The end of an operation and a change of the fields beside it may be written in either order. -/
theorem Slot.ended_vacated (sl : Slot) (outcome : OutcomeKind) (now : Word32) :
    (sl.windowless.ended outcome now).vacated = ((sl.ended outcome now).windowless).vacated := by
  cases ho : sl.operation <;> simp only [Slot.ended, Slot.windowless, ho]

/-! ### Insertion (R110, R111, R122) -/

/-- Settles O43: a VACANT slot, a FAULTED one, and a disabled one. -/
theorem insertion : Obligations.Insertion := by
  intro s i class0 class1 sl here read habsent
  have hline : s.updLines i (fun l => { l with present := .take true, class0 := class0, class1 := class1 }) =
      s.becomes i here [] := State.updLines_eq_becomes s i _
  have hpower := s.slot_becomes_power i here []
  refine ⟨fun henabled hvacant => ?_, fun henabled hfaulted => ?_, fun hdisabled => ?_⟩ <;>
    refine State.happen_eq (by rw [habsent]; rfl) ?_
  · rw [State.insertion, if_pos henabled, hline, State.inserted, hpower.trans hvacant]
    exact State.moduleArrives_becomes s i here [] rfl
  · rw [State.insertion, if_pos henabled, hline, State.inserted, hpower.trans hfaulted]
    have hread : (s.becomes i here []).upd i
        (fun sl => { sl with moduleClass := some sl.lines.classLines, autoPending := true }) = s.becomes i read [] := by
      simp only [classLines_eq_classOf]
      exact State.upd_becomes s i here _ [] _ (fun _ _ _ => rfl) rfl
    simp only [hread]
    exact State.occur_becomes s i read [] .inserted
  · rw [State.insertion, if_neg (Bool.eq_false_iff.1 hdisabled)]
    exact hline

/-! ### Removal (R97, R112, R113) -/

/-- Settles O44: by the power state that the loss of presence finds. -/
theorem removal : Obligations.Removal := by
  intro s i sl now gone vacated hpresent
  have hline : s.updLines i (fun l => { l with present := .take false }) = s.becomes i gone [] :=
    State.updLines_eq_becomes s i _
  have hpower := s.slot_becomes_power i gone []
  have htolerant : ((s.becomes i gone []).slot i).hardware.surpriseTolerant = sl.hardware.surpriseTolerant := by
    rw [State.slot_becomes_same]
    rfl
  have hpowered : sl.power.powered = true →
      (s.becomes i gone []).removed i =
        if sl.hardware.surpriseTolerant then (s.becomes i gone []).tolerantRemoval i
        else (s.becomes i gone []).removedLive i := by
    intro hrail
    rw [State.removed, hpower, htolerant]
    change gone.power.powered = true at hrail
    revert hrail
    cases gone.power <;> simp [PowerState.powered]
  refine ⟨fun henabled hidle => ?_, fun henabled hwaiting => ?_, fun henabled hfaulted => ?_,
    fun henabled hrail hlive => ?_, fun henabled hrail htol => ?_, fun hdisabled => ?_⟩ <;>
    refine State.happen_eq hpresent ?_
  · rw [State.removal, if_pos henabled, hline, State.removed, hpower.trans hidle]
    simp only [State.cancelHoldOff_becomes, State.vacate_becomes, State.occur_becomes]
    rfl
  · rw [State.removal, if_pos henabled, hline, State.removed, hpower.trans hwaiting]
    simp only [State.cancelHoldOff_becomes, State.leaveQueue_becomes, State.endOperation_becomes, State.vacate_becomes,
      State.occur_becomes, Slot.ended_vacated]
    rfl
  · rw [State.removal, if_pos henabled, hline, State.removed, hpower.trans hfaulted]
    simp only [State.dropClass_becomes, State.occur_becomes]
    rfl
  · rw [State.removal, if_pos henabled, hline, hpowered hrail, if_neg (Bool.eq_false_iff.1 hlive), State.removedLive,
      State.raiseFault_upd (sl := gone) s i .removedLive rfl rfl, State.dropClass_becomes, State.occur_becomes, List.append_assoc]
    rfl
  · rw [State.removal, if_pos henabled, hline, hpowered hrail, if_pos htol, State.tolerantRemoval,
      State.cancelHoldOff_becomes, State.cut_becomes s i gone.windowless [] .vacant rfl, State.endOperation_becomes,
      State.vacate_becomes, State.occur_becomes, State.afterRelease_part, Slot.windowless_off_ended]
    rfl
  · rw [State.removal, if_neg (Bool.eq_false_iff.1 hdisabled)]
    exact hline

/-! ### The lever (R96, R115, R126) -/

theorem Slot.lockOp_eq_lock_iff (sl : Slot) : sl.lockOp = some .lock ↔ ∃ o ∈ sl.operation, o.kind = .lock := by
  unfold Slot.lockOp
  cases sl.operation with
  | none => simp
  | some o => cases hk : o.kind <;> simp [hk, OpKind.isLock]

/-- Without an IDLE slot there is no auto-start attempt (R122). -/
theorem State.becomesOrStarts_of_not (b : State) (i : SlotId) {sl : Slot} (os : List Occurrence) (h : ¬sl.autoStarts) :
    b.becomesOrStarts i sl os = b.becomes i sl os :=
  if_neg h

theorem Slot.seated_iff (sl : Slot) :
    sl.seated = true ↔ sl.lines.lever.held = true ∧ (!sl.hardware.lockFitted || sl.lines.lockSense.held) = true := by
  simp [Slot.seated]

/-- What a slot that may now be seated does at the end of a happening (R29, R115, R122, R123), in the form. -/
theorem State.seated_becomes (b : State) (i : SlotId) (sl : Slot) (os : List Occurrence)
    (hp : sl.priority = (b.slot i).priority) :
    (if ((b.becomes i sl os).slot i).power = .waiting ∧ ((b.becomes i sl os).slot i).seated = true then
      (b.becomes i sl os).markPass else (b.becomes i sl os).autoAttempt i) =
      if sl.power = .waiting ∧ sl.seated = true then b.markPass.becomes i sl os else b.becomesOrStarts i sl os := by
  have hseated : ((b.becomes i sl os).slot i).seated = sl.seated := by
    rw [State.slot_becomes_same]
    rfl
  rw [State.slot_becomes_power, hseated, State.markPass_becomes, State.autoAttempt_becomes b i sl os hp]

/-- Settles O45: an opening by what it takes first, a closing by whether the slot waits, and a disabled slot. -/
theorem leverChanges : Obligations.LeverChanges := by
  intro s i closed sl moved lockOp post hmoves
  have hline : s.updLines i (fun l => { l with lever := .take closed }) = s.becomes i moved [] :=
    State.updLines_eq_becomes s i _
  have hpower := s.slot_becomes_power i moved []
  have hop : ((s.becomes i moved []).slot i).lockOp = some .lock ↔ lockOp := by
    rw [State.slot_becomes_same]
    exact sl.lockOp_eq_lock_iff
  have hopened : sl.hardware.enabled = true → closed = false →
      s.leverChange i closed = ((s.becomes i moved []).leverOpened i).occur (some i) .lever := by
    intro henabled hclosed
    rw [State.leverChange, hline, if_neg (by rw [henabled]; exact Bool.noConfusion), if_neg (by rw [hclosed]; exact Bool.noConfusion)]
  have hshut : sl.hardware.enabled = true → closed = true → s.leverChange i closed =
      if moved.power = .waiting ∧ moved.seated = true then s.markPass.becomes i moved post
      else s.becomesOrStarts i moved post := by
    intro henabled hclosed
    rw [State.leverChange, hline, if_neg (by rw [henabled]; exact Bool.noConfusion), if_pos hclosed, State.leverClosed, State.occur_becomes]
    exact s.seated_becomes i moved post rfl
  refine ⟨fun henabled hopens hrail => ?_, fun henabled hopens hstate hlock => ?_, fun henabled hopens hdead hfree => ?_,
    fun henabled hcloses hwaiting => ?_, fun henabled hcloses hwaiting => ?_, fun hdisabled => ?_⟩ <;>
    refine State.happen_eq (decide_eq_true hmoves) ?_
  · rw [hopened henabled hopens, State.leverOpened, hpower, if_pos hrail, State.raiseFault_upd (sl := moved) s i .leverOpen rfl rfl,
      State.occur_becomes]
  · have hdead : ¬moved.power.powered = true := by
      obtain hvacant | hidle := hstate
      · rw [show moved.power = .vacant from hvacant]
        exact Bool.false_ne_true
      · rw [show moved.power = .idle from hidle]
        exact Bool.false_ne_true
    obtain ⟨o, ho, -⟩ := id hlock
    rw [hopened henabled hopens, State.leverOpened, hpower, if_neg hdead, if_pos ⟨hstate, hop.2 hlock⟩,
      State.endLock_becomes, State.occur_becomes, Slot.endPosts_of_some (sl := moved) i ho]
    rfl
  · have hnot : ¬((moved.power = .vacant ∨ moved.power = .idle) ∧ ((s.becomes i moved []).slot i).lockOp = some .lock) :=
      fun ⟨hstate, hlock⟩ => hfree ⟨hstate, hop.1 hlock⟩
    rw [hopened henabled hopens, State.leverOpened, hpower, if_neg (Bool.eq_false_iff.1 hdead), if_neg hnot,
      State.occur_becomes]
    rfl
  · rw [hshut henabled hcloses]
    cases hseat : (!sl.hardware.lockFitted || sl.lines.lockSense.held) with
    | true =>
      rw [if_pos ⟨hwaiting, (Slot.seated_iff _).2 ⟨hcloses, hseat⟩⟩, Bool.or_true]
      rfl
    | false =>
      have hunseated : ¬(moved.power = .waiting ∧ moved.seated = true) := fun ⟨_, hseated⟩ =>
        Bool.noConfusion (hseat.symm.trans ((Slot.seated_iff _).1 hseated).2)
      have hnot : ¬moved.autoStarts := fun ⟨hidle, _⟩ => PowerState.noConfusion (hwaiting.symm.trans hidle)
      rw [if_neg hunseated, State.becomesOrStarts_of_not s i post hnot, Bool.or_false]
  · rw [hshut henabled hcloses, if_neg fun ⟨hwaits, _⟩ => hwaiting hwaits]
  · rw [State.leverChange, if_pos hdisabled]
    exact hline

/-! ### The button (R116, R117) -/

/-- Outside VACANT and FAULTED a press under TOGGLE starts a window, or cancels the one that runs (R117). -/
theorem State.togglePress_of_in_service {s : State} {i : SlotId} (hvacant : (s.slot i).power ≠ .vacant)
    (hfaulted : (s.slot i).power ≠ .faulted) :
    s.togglePress i =
      s.upd i fun sl => { sl with holdOff := if sl.holdOff.isSome then none else some (s.holdOffTime * 1000) } := by
  unfold State.togglePress
  split <;> [contradiction; contradiction; rfl; rfl; rfl; rfl; rfl; rfl; rfl; rfl]

/-- Settles O46: the policy and the state decide what a press does beside its post. -/
theorem buttonPress : Obligations.ButtonPress := by
  intro s i sl pressed
  have hline : s.updLines i (fun l => { l with button := .take true }) = s.becomes i pressed [] :=
    State.updLines_eq_becomes s i _
  have hnotDisabled : sl.hardware.enabled = true → ¬sl.hardware.enabled = false := fun henabled hdisabled =>
    Bool.noConfusion (henabled.symm.trans hdisabled)
  have hevent : sl.hardware.enabled = true → sl.buttonPolicy = .eventOnly →
      s.buttonPress i = s.becomes i pressed [(some i, .button)] := by
    intro henabled hpolicy
    rw [State.buttonPress, hline, if_neg (hnotDisabled henabled), State.occur_becomes]
    simp only [show (s.slot i).buttonPolicy = .eventOnly from hpolicy]
    rfl
  have htoggle : sl.hardware.enabled = true → sl.buttonPolicy = .toggle →
      s.buttonPress i = (s.becomes i pressed [(some i, .button)]).togglePress i := by
    intro henabled hpolicy
    rw [State.buttonPress, hline, if_neg (hnotDisabled henabled), State.occur_becomes]
    simp only [show (s.slot i).buttonPolicy = .toggle from hpolicy]
    rfl
  have hpower := s.slot_becomes_power i pressed [(some i, .button)]
  refine ⟨fun henabled hstays => ?_, fun henabled hpolicy hvacant hfaulted => ?_, fun hdisabled => ?_⟩ <;>
    refine congrArg (fun t : State => Host.Outcome.next t.finish) ?_
  · cases hpolicy : sl.buttonPolicy with
    | eventOnly => exact hevent henabled hpolicy
    | toggle =>
      rw [htoggle henabled hpolicy]
      obtain hother | hstate | hstate := hstays
      · exact ButtonPolicy.noConfusion (hpolicy.symm.trans hother)
      · simp only [State.togglePress, hpower.trans hstate]
      · simp only [State.togglePress, hpower.trans hstate]
  · rw [htoggle henabled hpolicy,
      State.togglePress_of_in_service (fun h => hvacant (hpower.symm.trans h)) fun h => hfaulted (hpower.symm.trans h)]
    refine State.upd_becomes s i pressed _ _ _ (fun p x y => ?_) rfl
    cases hwindow : sl.holdOff <;> simp only [pressed, hwindow, Slot.driven] <;> rfl
  · rw [State.buttonPress, if_pos hdisabled]
    exact hline

/-! ### The lock sense and the ends of lock operations (R123, R126) -/

/-- The kind of the lock operation in flight. -/
theorem Slot.lockOp_of_mem {sl : Slot} {o : Operation} (ho : o ∈ sl.operation) :
    sl.lockOp = if o.kind.isLock then some o.kind else none := by
  rw [Slot.lockOp, Option.mem_def.1 ho]

theorem Slot.lockOp_eq_none {sl : Slot} (h : ¬∃ o ∈ sl.operation, o.kind = .lock ∨ o.kind = .unlock) :
    sl.lockOp = none := by
  rw [← Slot.lockOp_isSome_iff, Option.isSome_iff_ne_none, not_not] at h
  exact h

/-- The end of a lock operation with outcome DONE (R126), in the form. -/
theorem State.lockDone_becomes (b : State) (i : SlotId) (sl : Slot) (os : List Occurrence) (kind : OpKind)
    (hp : sl.priority = (b.slot i).priority) :
    (b.becomes i sl os).lockDone i kind =
      if kind = .lock then
        b.becomesOrStarts i { sl.ended .done b.part.uptime with lockTimer := none } (os ++ sl.endPosts i)
      else b.becomes i { sl.ended .done b.part.uptime with lockTimer := none } (os ++ sl.endPosts i) := by
  have hpriority : (sl.ended .done b.part.uptime).priority = (b.slot i).priority := by
    cases ho : sl.operation <;> simp only [Slot.ended, ho, hp]
  rw [State.lockDone, State.endLock_becomes]
  simp only [State.autoAttempt_becomes b i { sl.ended .done b.part.uptime with lockTimer := none }
    (os ++ sl.endPosts i) hpriority]

/-- Settles O48: without a lock operation, with one whose target is shown or not, and where the sense acts on nothing. -/
theorem lockSenseChanges : Obligations.LockSenseChanges := by
  intro s i engaged sl moved ended acts lockOp hmoves
  have hline : s.updLines i (fun l => { l with lockSense := .take engaged }) = s.becomes i moved [] :=
    State.updLines_eq_becomes s i _
  have hacting : acts → ¬(sl.hardware.enabled = false ∨ sl.hardware.lockFitted = false) := by
    rintro ⟨henabled, hfitted⟩
    simp [henabled, hfitted]
  have hmoved : acts → ¬lockOp → s.lockSenseChange i engaged =
      if engaged = false then s.becomes i moved [(some i, .lock)]
      else if moved.power = .waiting ∧ moved.seated = true then s.markPass.becomes i moved [(some i, .lock)]
      else s.becomesOrStarts i moved [(some i, .lock)] := by
    intro hact hfree
    rw [State.lockSenseChange, hline, if_neg (hacting hact), Slot.lockOp_eq_none (sl := s.slot i) hfree]
    change (s.becomes i moved []).lockMoved i engaged = _
    rw [State.lockMoved, State.occur_becomes]
    exact congrArg (fun t : State => if engaged = false then s.becomes i moved [(some i, .lock)] else t)
      (s.seated_becomes i moved [(some i, .lock)] rfl)
  have hop : ∀ {o : Operation}, o ∈ sl.operation → acts → o.kind.isLock = true → s.lockSenseChange i engaged =
      if engaged = lockTarget o.kind then (s.becomes i moved []).lockDone i o.kind else s.becomes i moved [] := by
    intro o ho hact hlock
    rw [State.lockSenseChange, hline, if_neg (hacting hact), Slot.lockOp_of_mem (sl := s.slot i) ho, if_pos hlock]
  refine ⟨fun hact hfree hwaiting hengaged hlever => ?_, fun hact hfree hwaiting hengaged => ?_,
    fun hact hfree hstays => ?_, fun o ho hact hkind hengaged => ?_, fun o ho hact hkind hengaged => ?_,
    fun o ho hact hother => ?_, fun hidle => ?_⟩ <;>
    refine State.happen_eq (decide_eq_true hmoves) ?_
  · have hseated : moved.seated = true := by
      rw [Slot.seated_iff, show moved.lines.lockSense.held = engaged from rfl, hengaged, Bool.or_true]
      exact ⟨hlever, rfl⟩
    rw [hmoved hact hfree, if_neg (by rw [hengaged]; exact Bool.noConfusion), if_pos ⟨hwaiting, hseated⟩]
    rfl
  · rw [hmoved hact hfree, if_neg (by rw [hengaged]; exact Bool.noConfusion), if_neg fun ⟨hwaits, _⟩ => hwaiting hwaits]
  · rw [hmoved hact hfree]
    split
    · rfl
    · next hengaged =>
      obtain ⟨hwaiting, hlever⟩ := hstays.resolve_left hengaged
      have hunseated : ¬(moved.power = .waiting ∧ moved.seated = true) := fun ⟨_, hseated⟩ =>
        Bool.noConfusion (hlever.symm.trans ((Slot.seated_iff _).1 hseated).1)
      have hnot : ¬moved.autoStarts := fun ⟨hidle, _⟩ => PowerState.noConfusion (hwaiting.symm.trans hidle)
      rw [if_neg hunseated, State.becomesOrStarts_of_not s i _ hnot]
  · rw [hop ho hact (by rw [hkind]; rfl), hkind,
      if_pos (show engaged = lockTarget .lock from hengaged), State.lockDone_becomes s i moved [] .lock rfl,
      if_pos rfl, Slot.endPosts_of_some (sl := moved) i ho]
    rfl
  · rw [hop ho hact (by rw [hkind]; rfl), hkind,
      if_pos (show engaged = lockTarget .unlock from hengaged), State.lockDone_becomes s i moved [] .unlock rfl,
      if_neg OpKind.noConfusion, Slot.endPosts_of_some (sl := moved) i ho]
    rfl
  · obtain ⟨hkind, hengaged⟩ | ⟨hkind, hengaged⟩ := hother
    · rw [hop ho hact (by rw [hkind]; rfl), hkind, if_neg (by rw [hengaged]; decide)]
    · rw [hop ho hact (by rw [hkind]; rfl), hkind, if_neg (by rw [hengaged]; decide)]
  · have hquiet : sl.hardware.enabled = false ∨ sl.hardware.lockFitted = false := by
      rw [← Bool.not_eq_true, ← Bool.not_eq_true, ← not_and_or]
      exact hidle
    rw [State.lockSenseChange, if_pos hquiet]
    exact hline

/-- A slot with no lock operation in flight does not drive its lock (R123). -/
theorem Slot.lockDrive_of_ended (sl : Slot) (outcome : OutcomeKind) (now : Word32) :
    ({ sl.ended outcome now with lockTimer := none } : Slot).lockDrive = .none := by
  cases ho : sl.operation <;> simp [Slot.ended, Slot.lockDrive, ho]

/-- The end of a lock operation (R126) on any state. -/
theorem State.endLock_eq_becomes (s : State) (i : SlotId) (outcome : OutcomeKind) :
    s.endLock i outcome =
      s.becomes i { (s.slot i).ended outcome s.part.uptime with lockTimer := none } ((s.slot i).endPosts i) := by
  rw [State.endLock, State.upd_eq_becomes, State.endOperation_becomes]
  cases ho : (s.slot i).operation <;> simp only [Slot.ended, Slot.endPosts, ho, List.nil_append]

/-- The due end of a lock operation, the lock operation in flight known (R126). -/
theorem State.dueLockEnd_of_mem {s : State} {i : SlotId} {o : Operation} (ho : o ∈ (s.slot i).operation)
    (hlock : o.kind.isLock = true) :
    s.dueLockEnd i =
      if (s.slot i).lockEndDue = some o.ticket ∧ (s.slot i).lines.lockSense.held = lockTarget o.kind then
        (s.becomes i { s.slot i with lockEndDue := none } []).lockDone i o.kind
      else s.becomes i { s.slot i with lockEndDue := none } [] := by
  rw [State.dueLockEnd, Slot.lockOp_of_mem ho, if_pos hlock, State.upd_eq_becomes, Slot.opTicket_of_mem ho]

theorem State.dueLockEnd_of_none {s : State} {i : SlotId} (h : (s.slot i).lockOp = none) :
    s.dueLockEnd i = s.becomes i { s.slot i with lockEndDue := none } [] := by
  rw [State.dueLockEnd, h, State.upd_eq_becomes]

/-- Settles O49: the deadline, and the due end by whether it still finds its operation at the target. -/
theorem lockOperationsEnd : Obligations.LockOperationsEnd := by
  intro s i sl taken ended post
  refine ⟨fun o ho hlock htimer => ?_, fun o ho hkind hdue hsense => ?_, fun o ho hkind hdue hsense => ?_,
    fun ticket hdue hgone => ?_⟩
  · have hinFlight : sl.lockOp.isSome = true := sl.lockOp_isSome_iff.2 ⟨o, ho, hlock⟩
    have heffect := s.endLock_eq_becomes i .lockTimeout
    rw [Slot.endPosts_of_some i ho] at heffect
    refine ⟨_, State.happen_eq ?_ heffect, ?_, rfl⟩
    · rw [Bool.and_eq_true]
      exact ⟨decide_eq_true htimer, hinFlight⟩
    · rw [State.slot_finish, State.slot_becomes_same]
      exact sl.lockDrive_of_ended .lockTimeout s.part.uptime
  · refine State.happen_eq (Option.isSome_iff_exists.2 ⟨_, hdue⟩) ?_
    rw [State.dueLockEnd_of_mem ho (by rw [hkind]; rfl), hkind, if_pos ⟨hdue, hsense⟩,
      State.lockDone_becomes s i taken [] .lock rfl, if_pos rfl, Slot.endPosts_of_some (sl := taken) i ho]
    rfl
  · refine State.happen_eq (Option.isSome_iff_exists.2 ⟨_, hdue⟩) ?_
    rw [State.dueLockEnd_of_mem ho (by rw [hkind]; rfl), hkind, if_pos ⟨hdue, hsense⟩,
      State.lockDone_becomes s i taken [] .unlock rfl, if_neg OpKind.noConfusion,
      Slot.endPosts_of_some (sl := taken) i ho]
    rfl
  · refine State.happen_eq (Option.isSome_iff_exists.2 ⟨_, hdue⟩) ?_
    by_cases hlock : ∃ o ∈ sl.operation, o.kind = .lock ∨ o.kind = .unlock
    · obtain ⟨o, ho, hkind⟩ := hlock
      have hlate : ¬(sl.lockEndDue = some o.ticket ∧ sl.lines.lockSense.held = lockTarget o.kind) := by
        rintro ⟨hticket, htarget⟩
        have hsame : ticket = o.ticket := Option.some.inj (hdue.symm.trans hticket)
        have hcases := hgone o ho
        obtain hlock | hunlock := hkind <;> simp_all [lockTarget]
      rw [State.dueLockEnd_of_mem ho (by obtain h | h := hkind <;> rw [h] <;> rfl), if_neg hlate]
    · rw [State.dueLockEnd_of_none (Slot.lockOp_eq_none hlock)]

end Sys2Proof.Machine
end

section
set_option Elab.async false -- few threads at a time: each takes its stack from the check's memory
/-! PROOFS. The blink patterns (R132, R136, R138), a change of a supply's GOOD that sheds nothing (R6, R7, R85), the shedding of
one victim (R80 to R83), and an admission pass at one entry (R37, R39, R55). -/
namespace Sys2Proof.Machine

/-! ### The blink patterns (R132, R136, R138) -/

theorem State.pattern_tick (s : State) (p : Pattern) : s.tick.pattern p = (s.pattern p).tick := by
  obtain ⟨hslow, hfast, -⟩ := (State.PinsApart.driveWires s).blocks
  cases p with
  | slow => exact congrArg BlinkPattern.tick hslow
  | fast => exact congrArg BlinkPattern.tick hfast

theorem BlinkPattern.boundary_eq (b : BlinkPattern) :
    b.boundary =
      { period := (b.waiting.map (·.1)).getD b.period, onTime := (b.waiting.map (·.2)).getD b.onTime, phase := 0
        waiting := none, crossing := false } := by
  obtain ⟨period, onTime, phase, waiting, crossing⟩ := b
  cases waiting <;> rfl

/-- A change of a pattern drives every output by the pattern's new values (R132, R138). -/
theorem State.changePattern_eq (s : State) (p : Pattern) (v : BlinkPattern) :
    s.changePattern p v =
      { (s.setPattern p v) with
        slots := s.slots.map (Slot.driven (s.setPattern p v).slow.lit (s.setPattern p v).fast.lit) } := by
  cases p <;> rfl

theorem BlinkPattern.atOnTimeEnd_of {b : BlinkPattern} (hcrossing : b.crossing = true) (hwithin : b.phase + 1 < b.period)
    (hends : b.phase + 1 = b.onTime) : b.atOnTimeEnd = true := by
  simp only [BlinkPattern.atOnTimeEnd, Bool.and_eq_true, decide_eq_true_eq]
  exact ⟨⟨hcrossing, hwithin⟩, hends⟩

/-- Settles O50: the raise of the tick by whether it crosses, when the crossings are due, and what each does. -/
theorem blinkPatternsRun : Obligations.BlinkPatternsRun := by
  intro s p b wraps leaves turned
  refine ⟨fun hwithin hstays => ?_, fun hcrosses => ?_, State.mem_dueHappenings, State.mem_dueHappenings,
    fun hcrossing hwraps => ?_, fun hcrossing ⟨hwithin, hends⟩ => ?_⟩
  · rw [State.pattern_tick]
    refine if_neg ?_
    rintro (hwraps | hends)
    · exact hwithin hwraps
    · exact hstays ⟨Nat.not_le.1 hwithin, hends⟩
  · rw [State.pattern_tick]
    exact if_pos (hcrosses.imp id And.right)
  · refine State.happen_eq (BlinkPattern.atBoundary_iff.2 ⟨hcrossing, hwraps⟩) ?_
    rw [State.changePattern_eq, BlinkPattern.boundary_eq]
  · refine State.happen_eq (BlinkPattern.atOnTimeEnd_of hcrossing hwithin hends) ?_
    rw [State.changePattern_eq]
    rfl

/-! ### Postings one behind the other -/

theorem Events.taking_with_alert (e : Events) (a : Bool) (now : Word32) (o : Occurrence) :
    ({ e with alert := a } : Events).taking now o = { e.taking now o with alert := a } := by
  unfold Events.taking
  simp only [Events.post_with_alert]
  cases hasKind e.noticeMask o.2 <;> rfl

theorem Events.foldl_taking_with_alert (os : List Occurrence) (now : Word32) :
    ∀ (e : Events) (a : Bool), os.foldl (fun e o => e.taking now o) { e with alert := a } =
      { os.foldl (fun e o => e.taking now o) e with alert := a } := by
  induction os with
  | nil => exact fun _ _ => rfl
  | cons o rest ih => exact fun e a => (congrArg (rest.foldl _) (e.taking_with_alert a now o)).trans (ih _ a)

/-- The state after occurrences, the pending sets of the slots and ALERT apart (R141). -/
def State.posted (b : State) (os : List Occurrence) : State :=
  { b with
    events := os.foldl (fun e o => e.taking b.part.uptime o) b.events
    port.offerDue := b.port.offerDue || os.any fun o => hasKind b.events.noticeMask o.2 }

theorem State.posting_eq_posted (b : State) {os : List Occurrence} (h : os.isEmpty = false) :
    b.posting os = (b.posted os).realert := by
  rw [State.posting, h]
  rfl

/-- What is posted behind a posting differs only in the ALERT it finds. -/
theorem State.posted_posting (b : State) (os os' : List Occurrence) :
    (b.posting os).posted os' = { b.posted (os ++ os') with events.alert := (b.posting os).events.alert } := by
  have hmask : (b.posting os).events.noticeMask = b.events.noticeMask := Events.foldl_taking_noticeMask _ _ os
  have hevents : (b.posting os).events =
      { os.foldl (fun e o => e.taking b.part.uptime o) b.events with alert := (b.posting os).events.alert } := rfl
  have hport : (b.posting os).port =
      { b.port with offerDue := b.port.offerDue || os.any fun o => hasKind b.events.noticeMask o.2 } := rfl
  rw [State.posted, hmask, hport, hevents, State.posting_part, Events.foldl_taking_with_alert, ← List.foldl_append]
  simp only [State.posted, List.any_append, Bool.or_assoc]
  rfl

/-- Two postings are one posting of all their occurrences. -/
theorem State.posting_posting (b : State) (os os' : List Occurrence) :
    (b.posting os).posting os' = b.posting (os ++ os') := by
  cases os' with
  | nil => rw [State.posting_nil, List.append_nil]
  | cons o rest =>
    have hempty : (os ++ o :: rest).isEmpty = false := by cases os <;> rfl
    rw [State.posting_eq_posted _ rfl, State.posting_eq_posted b hempty, State.posted_posting]
    rfl

/-! ### A change of GOOD (R6, R7, R85) -/

/-- The state with a changed supply record, the ceiling apart (R7). -/
def State.withGood (s : State) (n : SupplyId) (good : Bool) : State :=
  { s with
    budget.supplies := s.budget.supplies.set n.val ((s.budget.supplies.get n).changed good s.part.uptime) n.isLt }

/-- The ceiling that follows and the CEILING it posts stand behind what has been posted before. -/
theorem State.ceilingFollows_posting (b : State) (os : List Occurrence) :
    (b.posting os).ceilingFollows =
      ({ b with
          budget.ceiling := b.budget.computed
          admission.queue :=
            if b.budget.ceiling < b.budget.computed then b.admission.queue.map fun e => { e with heldForRise := false }
            else b.admission.queue
          admission.passDue := b.admission.passDue || decide (b.budget.ceiling < b.budget.computed) } : State).posting
        (os ++ if b.budget.computed = b.budget.ceiling then [] else [(none, .ceiling)]) := by
  rw [← State.posting_posting]
  rfl

/-- Settles O33: the record, SUPPLY, and then the ceiling that covers the committed total. -/
theorem supplyGoodChanges : Obligations.SupplyGoodChanges := by
  intro s n good old supplies would hchanges hcovers
  refine State.happen_eq (decide_eq_true hchanges) ?_
  have hcovered : ((s.withGood n good).posting [(none, .supply)]).budget.committed ≤
      ((s.withGood n good).posting [(none, .supply)]).budget.computed := hcovers
  have heffect : s.supplyChange n good = ((s.withGood n good).posting [(none, .supply)]).recompute := by
    rw [← State.occur_none_eq_posting]
    rfl
  rw [heffect, State.recompute_eq_ceilingFollows hcovered, State.ceilingFollows_posting]
  rfl

/-! ### The shedding of a victim (R80 to R83) -/

/-- A slot record that has been shed, its return to the queue apart (R80, R81). -/
def Slot.shed (sl : Slot) (now : Word32) : Slot := (sl.off .idle).ended .shed now

theorem Slot.shed_priority (sl : Slot) (now : Word32) : (sl.shed now).priority = sl.priority := by
  cases ho : sl.operation <;> simp only [Slot.shed, Slot.ended, Slot.off, ho]

theorem State.slot_afterRelease (s : State) (i j : SlotId) : (s.afterRelease i).slot j = s.slot j := by
  unfold State.afterRelease
  split <;> rfl

/-- What a victim's shedding does (R80 to R83), in the form. -/
theorem State.shedVictim_eq_becomes (s : State) (i : SlotId) :
    s.shedVictim i =
      if (s.slot i).power ≠ .drain ∧ (s.slot i).restoreAfterShed = true ∧ (s.slot i).lines.present.held = true then
        ((s.afterRelease i).afterJoin i .restore true).becomes i
          (((s.slot i).shed s.part.uptime).joined .restore s.part.ticketCounter s.part.uptime)
          ((s.slot i).endPosts i ++ [(some i, .shed)])
      else (s.afterRelease i).becomes i ((s.slot i).shed s.part.uptime) ((s.slot i).endPosts i ++ [(some i, .shed)]) := by
  have hposts : ((s.slot i).off .idle).endPosts i = (s.slot i).endPosts i := rfl
  have hshed : ((s.cut i .idle).endOperation i .shed).occur (some i) .shed =
      (s.afterRelease i).becomes i ((s.slot i).shed s.part.uptime) ((s.slot i).endPosts i ++ [(some i, .shed)]) := by
    rw [State.cut_eq_becomes, State.endOperation_becomes, State.occur_becomes, State.afterRelease_part, hposts]
    rfl
  have hpriority : ((s.slot i).shed s.part.uptime).priority = ((s.afterRelease i).slot i).priority := by
    rw [Slot.shed_priority, State.slot_afterRelease]
  simp only [State.shedVictim, hshed]
  rw [State.joinQueue_becomes _ i _ _ .restore true hpriority, State.afterRelease_part]

/-- Settles O35: in a lawful powered slot the module is present, so the two settings decide. -/
theorem victimsAreShed : Obligations.VictimsAreShed := by
  intro s i hpowered hlawful shed posts
  have hpresent : (s.slot i).lines.present.held = true := by
    obtain ⟨-, -, -, -, hservice, -⟩ := hlawful
    have hinService : (s.slot i).power.inService = true := by
      revert hpowered
      cases (s.slot i).power <;> decide
    exact (hservice hinService).2
  rw [State.shedVictim_eq_becomes]
  refine ⟨fun hstays => if_neg ?_, fun hdrain hrestore => if_pos ⟨hdrain, hrestore, hpresent⟩⟩
  rintro ⟨hdrain, hrestore, -⟩
  exact hstays ⟨hdrain, hrestore⟩

/-! ### An admission pass (R36 to R39) -/

/-- The effective draw (R9): the override, or else the draw of the class. -/
theorem State.effectiveDraw_eq (s : State) (i : SlotId) :
    s.effectiveDraw i = (s.slot i).overrideDraw.or ((s.slot i).moduleClass.map fun c => s.budget.classDraws.get c) := by
  unfold State.effectiveDraw
  cases (s.slot i).overrideDraw <;> rfl

/-- A slot is seated, in the words of R29. -/
theorem Slot.seated_iff_lock (sl : Slot) :
    sl.seated = true ↔
      sl.lines.lever.held = true ∧ (sl.hardware.lockFitted = true → sl.lines.lockSense.held = true) := by
  rw [Slot.seated_iff]
  cases sl.hardware.lockFitted <;> simp

/-- An entry for which a pass stands aside is left where it is (R37). -/
theorem State.judge_of_aside {s : State} {e : QueueEntry} (h : (e.heldForRise || !(s.slot e.slot).seated) = true) :
    s.judge e = .standsAside :=
  if_pos h

theorem State.judge_of_no_position {s : State} {e : QueueEntry}
    (haside : (e.heldForRise || !(s.slot e.slot).seated) = false)
    (hnone : s.admission.gate = .held ∨ s.admission.positions ≤ s.admission.inrushHeld) : s.judge e = .passEnds :=
  (if_neg (Bool.eq_false_iff.1 haside)).trans (if_pos hnone)

/-- With a position free the draw decides (R37). -/
theorem State.judge_of_draw {s : State} {e : QueueEntry} {draw : Nat}
    (haside : (e.heldForRise || !(s.slot e.slot).seated) = false)
    (hfree : ¬(s.admission.gate = .held ∨ s.admission.positions ≤ s.admission.inrushHeld))
    (hdraw : s.effectiveDraw e.slot = some draw) :
    s.judge e =
      if s.budget.fits draw then .admitted draw
      else if s.admission.policy = .strict ∨ s.admission.bypassLimit ≤ e.bypass then .passEnds else .passedOver := by
  simp only [State.judge, if_neg (Bool.eq_false_iff.1 haside), if_neg hfree, hdraw]

/-- A pass leaves the entries that it stands aside for at the head of what remains. -/
theorem passWalk_append_aside {aside : List QueueEntry} {s : State} (h : ∀ x ∈ aside, s.judge x = .standsAside)
    (rest : List QueueEntry) :
    passWalk (aside ++ rest) s =
      ((passWalk rest s).1, aside ++ (passWalk rest s).2.1, (passWalk rest s).2.2) := by
  induction aside with
  | nil => rfl
  | cons x xs ih =>
    rw [List.cons_append, passWalk, h x List.mem_cons_self, ih fun y hy => h y (List.mem_cons_of_mem x hy)]
    rfl

/-- A slot record that has been admitted (R39, R55). -/
def Slot.admitted (sl : Slot) (p : Profile) (draw stamp : Nat) : Slot :=
  { sl with
    power := .auxRamp, commitment := some ⟨draw, stamp, true⟩, stageTimer := timeoutMs p.auxCode
    readyRequired := p.readyRequired, endDue := sl.lines.auxGood.held, overcurrentDue := sl.lines.fault.held }

/-- The state with the accounts of an admission made, the slot's own record apart (R39). -/
def State.afterAdmit (s : State) (draw : Nat) : State :=
  { s with
    admission.admissionCounter := min 4294967295 (s.admission.admissionCounter + 1)
    admission.inrushHeld := s.admission.inrushHeld + 1
    budget.committed := s.budget.committed + draw }

/-- An admission (R39, R55), in the form. -/
theorem State.admitSlot_eq_becomes (s : State) (i : SlotId) (draw : Nat) :
    s.admitSlot i draw = (s.afterAdmit draw).becomes i
      ((s.slot i).admitted (s.profiles.get (s.slot i).profileIndex) draw
        (min 4294967295 (s.admission.admissionCounter + 1))) [] := by
  have hcommitted : s.admitSlot i draw = ((s.afterAdmit draw).becomes i
      { s.slot i with commitment := some ⟨draw, min 4294967295 (s.admission.admissionCounter + 1), true⟩ } []).enterAuxRamp
        i := by
    rw [State.admitSlot, State.upd_eq_becomes]
    rfl
  rw [hcommitted, State.enterAuxRamp, State.profileOf_becomes]
  exact State.upd_becomes _ i _ _ [] _ (fun _ _ _ => rfl) rfl

theorem State.pass_eq (s : State) :
    s.pass = { (passWalk s.admission.queue { s with admission.passDue := false }).1 with
      admission.queue := (passWalk s.admission.queue { s with admission.passDue := false }).2.1 } := rfl

/-- Settles O36: the entries stood aside for are passed by, and the first other entry is judged. -/
theorem admissionPassTakesOneEntry : Obligations.AdmissionPassTakesOneEntry := by
  intro s aside rest e seated sl p draw stamp hdue hqueue haside hmark hseated
  let s0 : State := { s with admission.passDue := false }
  have hseats : ∀ x : QueueEntry, (s.slot x.slot).seated = true ↔ seated x := fun x => Slot.seated_iff_lock _
  have hasides : ∀ x ∈ aside, s0.judge x = .standsAside := by
    intro x hx
    refine State.judge_of_aside ?_
    have hunseated : ¬seated x → (s.slot x.slot).seated = false := fun h => by rwa [← hseats, Bool.not_eq_true] at h
    obtain hheld | hseat := haside x hx
    · simp [hheld]
    · show (x.heldForRise || !(s.slot x.slot).seated) = true
      simp [hunseated hseat]
  have hfirst : (e.heldForRise || !(s0.slot e.slot).seated) = false := by
    show (e.heldForRise || !(s.slot e.slot).seated) = false
    simp [hmark, (hseats e).2 hseated]
  have hpass : ∀ {t : State} {kept : List QueueEntry} {any : Bool}, passWalk (e :: rest) s0 = (t, kept, any) →
      exec .admissionPass s = .next ({ t with admission.queue := aside ++ kept } : State).finish := by
    intro t kept any hwalk
    refine State.happen_eq hdue ?_
    rw [State.pass_eq, hqueue, passWalk_append_aside hasides, hwalk]
  have hsame : passWalk (e :: rest) s0 = (s0, e :: rest, false) → exec .admissionPass s = .next s0.finish := by
    intro hwalk
    rw [hpass hwalk, ← hqueue]
  have hposition : s.admission.gate = .opened → s.admission.inrushHeld < s.admission.positions →
      ¬(s0.admission.gate = .held ∨ s0.admission.positions ≤ s0.admission.inrushHeld) := by
    rintro hopen hfree (hheld | hfull)
    · exact Gate.noConfusion (hopen.symm.trans hheld)
    · exact Nat.not_le.2 hfree hfull
  refine ⟨fun hnone => hsame ?_, fun hopen hfree amount hamount hover hends => hsame ?_,
    fun hopen hfree hlast amount hamount hpositive hcovers => ?_⟩
  · rw [passWalk, State.judge_of_no_position hfirst hnone]
  · have hdraw : s0.effectiveDraw e.slot = some amount := (s0.effectiveDraw_eq e.slot).trans hamount
    have hnoFit : ¬s0.budget.fits amount = true := by
      simp only [Budget.fits, Bool.and_eq_true, decide_eq_true_eq]
      show ¬(0 < s.budget.ceiling ∧ s.budget.committed + amount ≤ s.budget.ceiling)
      omega
    rw [passWalk, State.judge_of_draw hfirst (hposition hopen hfree) hdraw, if_neg hnoFit]
    by_cases hstop : s0.admission.policy = .strict ∨ s0.admission.bypassLimit ≤ e.bypass
    · rw [if_pos hstop]
    · have hlast : rest = [] := by
        obtain hstrict | hlimit | hlast := hends
        · exact absurd (.inl hstrict) hstop
        · exact absurd (.inr hlimit) hstop
        · exact hlast
      rw [if_neg hstop, hlast]
      rfl
  · have hdraw : s0.effectiveDraw e.slot = some amount := (s0.effectiveDraw_eq e.slot).trans hamount
    have hfits : s0.budget.fits amount = true := by
      simp only [Budget.fits, Bool.and_eq_true, decide_eq_true_eq]
      exact ⟨hpositive, hcovers⟩
    have hwalk : passWalk (e :: rest) s0 = (s0.admitSlot e.slot amount, [], true) := by
      rw [passWalk, State.judge_of_draw hfirst (hposition hopen hfree) hdraw, if_pos hfits, hlast]
      rfl
    rw [hpass hwalk, List.append_nil, State.admitSlot_eq_becomes]
    rfl

end Sys2Proof.Machine
end

section
set_option Elab.async false -- few threads at a time: each takes its stack from the check's memory
/-! PROOFS. The power-on reset, the full restart and the ride-through restart, whole (R155, R168, R182 to R186), and the laws
of every moment right after a power-on reset. -/
namespace Sys2Proof.Machine

/-! ### What both restart forms do (R155, R168) -/

/-- The event unit right after a restart: RESTARTED alone is pending, queued, and calls for ALERT. -/
def Events.atRestart (now : Word32) : Events :=
  { pendingZero := EventKind.restarted.bit, notices := [⟨none, .restarted, 1, now⟩], overflow := false, announced := false
    lostCount := 0, overflowStamp := none, noticeMask := 0x07FF
    alertMask := EventKind.fault.bit ||| EventKind.shed.bit ||| EventKind.restarted.bit, alert := true }

/-- The emptied event unit takes RESTARTED: all kinds are in the notice mask. -/
theorem Events.cleared_taking_restarted (e : Events) (now : Word32) :
    e.cleared.taking now (none, .restarted) = { Events.atRestart now with alert := e.alert } := by
  have hmask : hasKind e.cleared.noticeMask .restarted = true := show hasKind allKinds .restarted = true by decide
  have hset : (0 : Word16) ||| EventKind.restarted.bit = EventKind.restarted.bit := by decide
  have hdefault : alertDefault = EventKind.fault.bit ||| EventKind.shed.bit ||| EventKind.restarted.bit := by decide
  rw [Events.taking_none, if_pos hmask]
  refine Eq.trans (b := { e.cleared with
    pendingZero := 0 ||| EventKind.restarted.bit, notices := [⟨none, .restarted, 1, now⟩] }) rfl ?_
  rw [hset, Events.cleared, hdefault]
  rfl

theorem State.restartEvents_events (s : State) : s.restartEvents.events = .atRestart s.part.uptime := by
  have halert : (s.eventsCleared.occur none .restarted).alerting = true := by
    rw [← State.occur_alert, State.occur_alert_iff]
    refine ⟨none, ?_⟩
    rw [State.pendingOf_occur_same]
    show ((0 : Word16) ||| EventKind.restarted.bit) &&& alertDefault ≠ 0
    decide
  calc s.restartEvents.events
      = { s.events.cleared.taking s.part.uptime (none, .restarted) with
          alert := (s.eventsCleared.occur none .restarted).alerting } := State.occur_events _ none .restarted
    _ = .atRestart s.part.uptime := by rw [halert, Events.cleared_taking_restarted]; rfl

theorem State.restartEvents_slots (s : State) :
    s.restartEvents.slots = s.slots.map fun sl => { sl with pendingSet := 0 } := by
  rw [State.restartEvents_eq, State.occur_none_eq_posting]
  rfl

/-- A restart's part of the event unit, whole: every pending set emptied, RESTARTED posted, an offer due. -/
theorem State.restartEvents_eq_with (s : State) :
    s.restartEvents =
      { s with
        events := .atRestart s.part.uptime
        port.offerDue := true
        slots := s.slots.map fun sl => { sl with pendingSet := 0 } } := by
  have hrest := s.eventsCleared.occur_with_restored none .restarted
  calc s.restartEvents
      = { s.eventsCleared with
          slots := s.restartEvents.slots, events := s.restartEvents.events, port := s.restartEvents.port } := by
        rw [← hrest]; rfl
    _ = _ := by rw [s.restartEvents_slots, s.restartEvents_events, s.restartEvents_port]; rfl

/-- A restarted port holds nothing that an offer could start, and grants no credit: the offer lapses (R163, R168). -/
theorem State.finish_of_restarted {s : State} {rate : Nat} {held : Bool}
    (hport : s.port = { Port.reset rate with rxHeld := held, offerDue := true }) :
    s.finish = { s with port.offerDue := false } := by
  rw [State.finish_of_offer (by rw [hport])]
  cases hidle : ({ s with port.offerDue := false } : State).lineIdle with
  | false => exact State.offer_of_busy hidle
  | true =>
    refine (State.offer_of_nothing_ready hidle (show s.port.ready = [] by rw [hport]; rfl)).trans (if_neg ?_)
    show ¬1 ≤ s.port.credit
    rw [hport]
    exact Nat.not_succ_le_zero 0

theorem State.reset_profiles_get (k : Fin 4) : State.reset.profiles.get k = ⟨6, 7, 50, true, 11, 11⟩ :=
  Vector.getElem_replicate k.isLt

/-! ### The power-on reset (R182) -/

/-- Settles O51: each block is the reset's own, the lines and the rate those of the pins. -/
theorem powerOnReset : Obligations.PowerOnReset := by
  intro s rateA rateB
  refine ⟨s.powerOnReset rateA rateB, rfl, rfl, ?_, rfl, rfl,
    ⟨rfl, rfl, rfl, rfl, rfl, fun n => Vector.get_map_supply _ _ n⟩, State.reset_profiles_get, rfl, rfl, rfl, rfl, rfl, rfl,
    fun i => State.slot_of_map (t := s.powerOnReset rateA rateB) rfl i⟩
  cases rateA <;> cases rateB <;> rfl

/-! ### The full restart (R186) -/

/-- The sum of the capacities of the good supplies, taken where capacities are kept or all made 0. -/
theorem goodSum_map_capacity (ps : Vector Supply 4) (keep : Bool) :
    goodSum (ps.map fun p => { p with capacity := if keep then p.capacity else 0 }) =
      if keep then (((List.finRange 4).filter fun n => (ps.get n).line.held).map fun n => (ps.get n).capacity).sum
      else 0 := by
  have hline (n : SupplyId) :
      ((ps.map fun p => ({ p with capacity := if keep then p.capacity else 0 } : Supply)).get n) =
        { ps.get n with capacity := if keep then (ps.get n).capacity else 0 } := Vector.get_map_supply _ _ n
  rw [goodSum_eq, goodSupplies]
  simp only [hline]
  cases keep with
  | true => rfl
  | false => simp

/-- Settles O53: the restart sets each block, RESTARTED is posted, and the offer that this makes due lapses. -/
theorem fullRestart : Obligations.FullRestart := by
  intro s hask
  have hexec : exec .requestedRestart s = .next ({ s.fullRestart with port.offerDue := false } : State) := by
    have hdue : s.part.restartAsk.isDue = true := by rw [hask]; rfl
    have hstate : s.requestedRestart = s.fullRestart := by rw [State.requestedRestart, hask]
    refine (State.happen_of_arises _ hdue).trans ?_
    rw [hstate, State.finish_of_restarted s.fullRestart_port]
  refine ⟨_, hexec, ?_⟩
  rw [State.fullRestart, State.restartEvents_eq_with]
  refine ⟨rfl, rfl, rfl, rfl, ⟨rfl, rfl, rfl, rfl, ?_, fun n => Vector.get_map_supply _ _ n⟩, State.reset_profiles_get, rfl, rfl,
    rfl, rfl, rfl, rfl, fun i => ?_⟩
  · exact (Nat.sub_zero _).trans (goodSum_map_capacity s.budget.supplies s.part.frozen)
  · exact State.slot_of_map (s := s) (f := fun sl => { sl.fullRestart s.part.frozen with pendingSet := 0 }) Vector.map_map i

/-! ### The laws of power where no slot has power (R12, R182) -/

/-- A slot without power has nothing committed (R11). -/
theorem Slot.Lawful.amount_of_unpowered {sl : Slot} (h : sl.Lawful) (hpower : sl.power.powered = false) : sl.amount = 0 := by
  have hnone : sl.commitment = none := Option.isSome_eq_false_iff.1 (h.1.trans hpower) |> Option.isNone_iff_eq_none.1
  rw [Slot.amount, hnone]

/-- With every slot VACANT, nothing committed and the queue empty, the laws of power ask only for the ceiling. -/
theorem State.powerLawful_of_vacant {s : State} (hslot : ∀ i, (s.slot i).Lawful ∧ (s.slot i).power = .vacant)
    (hbudget : s.budget.committed = 0 ∧ s.budget.ceiling = s.budget.computed)
    (hadmission : s.admission.inrushHeld = 0 ∧ s.admission.queue = [] ∧ s.admission.enqueueCounter ≤ stampTop)
    (hpositions : 1 ≤ s.admission.positions ∧ s.admission.positions ≤ 4) : s.PowerLawful := by
  obtain ⟨hcommitted, hceiling⟩ := hbudget
  obtain ⟨hheld, hqueue, hcounter⟩ := hadmission
  have hamount : ∀ n ∈ allSlots.map fun i => (s.slot i).amount, n = 0 := by
    intro n hn
    obtain ⟨i, -, rfl⟩ := List.mem_map.1 hn
    obtain ⟨hlawful, hvacant⟩ := hslot i
    exact hlawful.amount_of_unpowered (by rw [hvacant]; rfl)
  have hramps : allSlots.countP (fun i => (s.slot i).power.inrush) = 0 :=
    List.countP_eq_zero.2 fun i _ => by rw [(hslot i).2]; exact Bool.false_ne_true
  refine ⟨fun i => (hslot i).1, ⟨?_, ?_, hceiling, ?_, ?_, hpositions⟩, ?_⟩
  · rw [hcommitted, List.sum_eq_zero hamount]
  · rw [hcommitted]; exact Nat.zero_le _
  · rw [hheld, hramps]
  · rw [hheld]; exact Nat.zero_le _
  · refine ⟨?_, fun i => ?_, ?_, ?_, ?_, hcounter⟩ <;> rw [hqueue]
    · exact List.nodup_nil
    · simp [(hslot i).2]
    · exact List.forall_mem_nil _
    · exact List.Pairwise.nil
    · exact List.forall_mem_nil _

theorem Slot.reset_lawful : Slot.reset.Lawful := by
  refine ⟨rfl, forall_mem_none, rfl, rfl, ?_, ?_, ?_, ?_, ?_, ?_, rfl⟩ <;> decide

theorem State.slot_reset (i : SlotId) : State.reset.slot i = .reset := Vector.getElem_replicate i.isLt

/-- Settles O55: block by block, each slot record being the reset one. -/
theorem resetIsLawful : Obligations.ResetIsLawful := by
  have hport : State.reset.PortOpen ∧ State.reset.port.offerDue = false :=
    ⟨State.portOpen_of_restarted (rate := 0) (held := false) (due := false) rfl, rfl⟩
  obtain ⟨hportLawful, hbusy⟩ := State.reset.portOpen_iff.2 hport
  refine ⟨fun i => ?_, BlinkPattern.slowReset_lawful, BlinkPattern.fastReset_lawful, ?_, hportLawful, hbusy,
    State.reset.eventsLawful_iff.2 (State.eventsSound_reset rfl), State.reset.inRange_iff.2 ?_⟩
  · rw [State.slot_reset]
    exact (Slot.reset_outputs .reset .down _ _).symm
  · exact State.powerLawful_of_vacant (fun i => by rw [State.slot_reset]; exact ⟨Slot.reset_lawful, rfl⟩)
      ⟨rfl, by decide⟩ ⟨rfl, rfl, Nat.zero_le _⟩ (by decide)
  · exact
      { budget := ⟨by decide, Nat.zero_le _, Nat.zero_le _, classDefaults_le⟩
        admission := .reset
        profiles := State.reset_profiles_inRange
        holdOffTime := State.reset_holdOffTime_range
        ticketCounter := ⟨Nat.le_refl 1, Nat.le_of_ble_eq_true rfl⟩
        port := Port.InRange.reset (Nat.zero_le 3) false false
        slots := fun i => by rw [State.slot_reset]; exact .reset }

/-! ### The ride-through restart (R185) -/

/-- A ride-through restart cuts the slot: its rails are up and it is not in ON (R185). -/
def Slot.cutInRestart (sl : Slot) : Bool := decide (sl.power.powered = true ∧ sl.power ≠ .on)

/-- The inrush positions that a slot holds, 0 or 1 (R30). -/
def Slot.positionsHeld (sl : Slot) : Nat := if sl.commitment.any (·.inrush) then 1 else 0

/-- The record of a slot cut by a ride-through restart (R185). -/
def Slot.rideCut (sl : Slot) : Slot := (sl.off sl.restartState).afterRestartCut

theorem Slot.afterRestartCut_restartState (sl : Slot) :
    (sl.off sl.restartState).afterRestartCut =
      if sl.lines.present.held then { sl.off .idle with operation := none }
      else ({ sl.off .vacant with operation := none } : Slot).vacated := by
  cases hpresent : sl.lines.present.held <;>
    simp [Slot.restartState, Slot.afterRestartCut, Slot.off, hpresent]

theorem Slot.rideCut_driven (sl : Slot) (slowLit fastLit : Bool) :
    (sl.driven slowLit fastLit).rideCut.driven slowLit fastLit = sl.rideCut.driven slowLit fastLit := by
  unfold Slot.rideCut
  rw [Slot.afterRestartCut_restartState, Slot.afterRestartCut_restartState]
  cases hpresent : sl.lines.present.held <;> simp only [Slot.driven, hpresent] <;> rfl

/-- The state without the commitments and the inrush positions of these slots, the records as they are (R13). -/
def State.withoutHeldOf (s : State) (slots : List SlotId) : State :=
  { s with
    budget.committed := s.budget.committed - (slots.map fun i => (s.slot i).amount).sum
    admission.inrushHeld := s.admission.inrushHeld - (slots.map fun i => (s.slot i).positionsHeld).sum }

/-- A cut that makes no pass due (R13, R62, R185). -/
theorem State.cutQuiet_eq_becomes (s : State) (i : SlotId) (st : PowerState) :
    s.cutQuiet i st = (s.withoutHeldOf [i]).becomes i ((s.slot i).off st) [] := by
  cases hcommitment : (s.slot i).commitment with
  | none =>
    have hheld : s.withoutHeldOf [i] = s := by
      simp [State.withoutHeldOf, Slot.amount, Slot.positionsHeld, hcommitment]
    have hrelease : s.release i = s := by rw [State.release, hcommitment]
    rw [hheld, State.cutQuiet, hrelease, State.upd_eq_becomes, Slot.off, ← hcommitment]
    rfl
  | some c =>
    have hheld : s.withoutHeldOf [i] =
        { s with
          budget.committed := s.budget.committed - c.amount
          admission.inrushHeld := if c.inrush then s.admission.inrushHeld - 1 else s.admission.inrushHeld } := by
      cases hinrush : c.inrush <;>
        simp [State.withoutHeldOf, Slot.amount, Slot.positionsHeld, hcommitment, hinrush]
    have hrelease : s.release i = (s.withoutHeldOf [i]).becomes i { s.slot i with commitment := none } [] := by
      rw [hheld, State.release, hcommitment]
      exact State.upd_eq_becomes _ i _
    rw [State.cutQuiet, hrelease]
    exact State.upd_becomes _ i _ _ [] _ (fun _ _ _ => rfl) rfl

theorem State.rideThroughSlot_of_cut {s : State} {i : SlotId} (h : (s.slot i).cutInRestart = true) :
    s.rideThroughSlot i = (s.withoutHeldOf [i]).becomes i (s.slot i).rideCut [] := by
  refine (if_pos (of_decide_eq_true h)).trans ?_
  rw [State.cutQuiet_eq_becomes]
  refine State.upd_becomes _ i _ _ [] _ (fun p _ _ => ?_) ?_
  · rw [Slot.rideCut, Slot.afterRestartCut_restartState]
    cases hpresent : (s.slot i).lines.present.held <;> rw [Slot.restartState, hpresent] <;> rfl
  · rw [Slot.rideCut, Slot.afterRestartCut_restartState]
    split <;> rfl

theorem State.rideThroughSlot_of_not_cut {s : State} {i : SlotId} (h : (s.slot i).cutInRestart = false) :
    s.rideThroughSlot i = s :=
  if_neg (of_decide_eq_false h)

/-- The ride-through restart of a list of slots takes what the cut ones hold out of the accounts, and makes their records
anew; nothing else changes. -/
theorem State.rideThroughSlots_eq {slots : List SlotId} (hnodup : slots.Nodup) (s : State) :
    { slots.foldl State.rideThroughSlot s with slots := s.slots } =
      s.withoutHeldOf (slots.filter fun i => (s.slot i).cutInRestart) ∧
    ∀ i, (slots.foldl State.rideThroughSlot s).slot i =
      if i ∈ slots ∧ (s.slot i).cutInRestart = true then (s.slot i).rideCut.driven s.slow.lit s.fast.lit else s.slot i := by
  induction slots generalizing s with
  | nil => exact ⟨by simp [State.withoutHeldOf], by simp⟩
  | cons j rest ih =>
    obtain ⟨hj, hrest⟩ := List.nodup_cons.1 hnodup
    rw [List.foldl_cons]
    cases hcut : (s.slot j).cutInRestart with
    | false =>
      rw [State.rideThroughSlot_of_not_cut hcut, List.filter_cons_of_neg (by rw [hcut]; exact Bool.false_ne_true)]
      obtain ⟨hframe, hslot⟩ := ih hrest s
      refine ⟨hframe, fun i => (hslot i).trans ?_⟩
      by_cases hi : i = j
      · rw [hi, hcut]; simp
      · simp [hi]
    | true =>
      rw [State.rideThroughSlot_of_cut hcut, List.filter_cons_of_pos (by rw [hcut])]
      obtain ⟨hframe, hslot⟩ := ih hrest ((s.withoutHeldOf [j]).becomes j (s.slot j).rideCut [])
      have hother : ∀ i ≠ j, ((s.withoutHeldOf [j]).becomes j (s.slot j).rideCut []).slot i = s.slot i :=
        fun i hi => State.slot_becomes_ne _ _ _ hi
      have hothers : ∀ i ∈ rest, ((s.withoutHeldOf [j]).becomes j (s.slot j).rideCut []).slot i = s.slot i :=
        fun i hi => hother i fun hij => hj (hij ▸ hi)
      refine ⟨?_, fun i => (hslot i).trans ?_⟩
      · rw [List.filter_congr fun i hi => congrArg Slot.cutInRestart (hothers i hi)] at hframe
        refine (congrArg (fun t : State => { t with slots := s.slots }) hframe).trans ?_
        have hmap {f : Slot → Nat} (l : List SlotId) (hl : l ⊆ rest) :
            (l.map fun i => f (((s.withoutHeldOf [j]).becomes j (s.slot j).rideCut []).slot i)) = l.map fun i => f (s.slot i) :=
          List.map_congr_left fun i hi => congrArg f (hothers i (hl hi))
        rw [State.withoutHeldOf, hmap _ (List.filter_subset_self _), hmap _ (List.filter_subset_self _)]
        simp [State.withoutHeldOf, State.becomes, Nat.sub_sub]
      · by_cases hi : i = j
        · subst hi
          rw [if_neg fun h => hj h.1, if_pos ⟨List.mem_cons_self, hcut⟩, State.slot_becomes_same]
          simp [kindsFor, State.withoutHeldOf]
        · rw [hother i hi]
          simp [hi]
          rfl

/-- A slot record after the restart's steps for the controls and the queue (R185). -/
def Slot.controlsDiscarded (sl : Slot) (now : Word32) : Slot := (sl.discardControls now).leaveWaiting

/-- But for a WAITING slot these steps leave the power state alone, and they release nothing. -/
theorem Slot.controlsDiscarded_power (sl : Slot) (now : Word32) :
    (sl.controlsDiscarded now).power = (if sl.power = .waiting then .idle else sl.power) ∧
    (sl.controlsDiscarded now).commitment = sl.commitment := by
  have hdiscard : (sl.discardControls now).power = sl.power ∧ (sl.discardControls now).commitment = sl.commitment := by
    unfold Slot.discardControls
    dsimp only
    split
    · split <;> exact ⟨rfl, rfl⟩
    · exact ⟨rfl, rfl⟩
  obtain ⟨hpower, hcommitment⟩ := hdiscard
  rw [Slot.controlsDiscarded, Slot.leaveWaiting, hpower]
  split
  · exact ⟨rfl, hcommitment⟩
  · exact ⟨hpower, hcommitment⟩

theorem Slot.controlsDiscarded_cutInRestart (sl : Slot) (now : Word32) :
    (sl.controlsDiscarded now).cutInRestart = sl.cutInRestart := by
  rw [Slot.cutInRestart, (sl.controlsDiscarded_power now).1]
  split
  · rename_i hwaiting
    rw [Slot.cutInRestart, hwaiting]
    rfl
  · rfl

/-- The record that a ride-through restart leaves. -/
def Slot.riddenThrough (sl : Slot) (now : Word32) : Slot :=
  if sl.cutInRestart then (sl.controlsDiscarded now).rideCut else sl.controlsDiscarded now

/-- The slots that a ride-through restart cuts. -/
def State.restartCuts (s : State) : List SlotId := allSlots.filter fun i => (s.slot i).cutInRestart

theorem State.slot_rideThroughControls (s : State) (i : SlotId) :
    s.rideThroughControls.slot i = ((s.slot i).controlsDiscarded s.part.uptime).driven s.slow.lit s.fast.lit :=
  State.slot_of_map (f := fun sl => (sl.controlsDiscarded s.part.uptime).driven s.slow.lit s.fast.lit) rfl i

/-- The accounts that a restart's cuts leave do not depend on its steps for the controls. -/
theorem State.withoutHeldOf_rideThroughControls (s : State) :
    s.rideThroughControls.withoutHeldOf s.rideThroughControls.restartCuts =
      { s.withoutHeldOf s.restartCuts with
        slots := s.rideThroughControls.slots
        admission := { (s.withoutHeldOf s.restartCuts).admission with queue := [], passDue := false } } := by
  have hcuts : s.rideThroughControls.restartCuts = s.restartCuts := List.filter_congr fun i _ => by
    rw [s.slot_rideThroughControls, ← (s.slot i).controlsDiscarded_cutInRestart s.part.uptime]
    rfl
  have hamount (i : SlotId) : (s.rideThroughControls.slot i).amount = (s.slot i).amount := by
    rw [s.slot_rideThroughControls, Slot.amount, Slot.driven, ((s.slot i).controlsDiscarded_power s.part.uptime).2]
    rfl
  have hheld (i : SlotId) : (s.rideThroughControls.slot i).positionsHeld = (s.slot i).positionsHeld := by
    rw [s.slot_rideThroughControls, Slot.positionsHeld, Slot.driven, ((s.slot i).controlsDiscarded_power s.part.uptime).2]
    rfl
  rw [hcuts]
  simp only [State.withoutHeldOf, hamount, hheld]
  rfl

/-- The ride-through restart, whole, before its offer. -/
theorem State.rideThrough_eq (s : State) (cause : RestartCause) :
    { s.rideThrough cause with slots := s.slots } =
      { s with
        part := { s.part with restartCause := cause, restartAsk := .none }
        port := { s.port.restarted with offerDue := true }
        events := .atRestart s.part.uptime
        admission := { (s.withoutHeldOf s.restartCuts).admission with queue := [], passDue := false }
        budget := { (s.withoutHeldOf s.restartCuts).budget with ceiling := s.budget.computed } } ∧
    ∀ i, (s.rideThrough cause).slot i =
      { ((s.slot i).riddenThrough s.part.uptime).driven s.slow.lit s.fast.lit with pendingSet := 0 } := by
  have hslots := State.rideThroughSlots_eq (slots := allSlots) (List.nodup_finRange 24)
    ({ s with port := s.port.restarted } : State).rideThroughControls
  rw [State.rideThrough, State.restartEvents_eq_with]
  dsimp only
  generalize allSlots.foldl State.rideThroughSlot ({ s with port := s.port.restarted } : State).rideThroughControls = v
    at hslots ⊢
  obtain ⟨hframe, hslot⟩ := hslots
  constructor
  · exact (congrArg (fun t : State =>
      { t with
        slots := s.slots
        part := { t.part with restartCause := cause, restartAsk := .none }
        port := { t.port with offerDue := true }
        events := .atRestart t.part.uptime
        budget := { t.budget with ceiling := t.budget.computed } })
      (hframe.trans (State.withoutHeldOf_rideThroughControls { s with port := s.port.restarted }))).trans rfl
  · intro i
    refine (State.slot_of_map (s := v) (f := fun sl => { sl with pendingSet := 0 }) rfl i).trans ?_
    have hcut : i ∈ allSlots ∧
        (((s.slot i).controlsDiscarded s.part.uptime).driven s.slow.lit s.fast.lit).cutInRestart = true ↔
          (s.slot i).cutInRestart = true := by
      rw [← (s.slot i).controlsDiscarded_cutInRestart s.part.uptime]
      exact and_iff_right (List.mem_finRange i)
    have hv := hslot i
    rw [State.slot_rideThroughControls] at hv
    rw [Slot.riddenThrough]
    by_cases h : (s.slot i).cutInRestart = true
    · rw [hv.trans (if_pos (hcut.2 h)), if_pos h]
      exact congrArg (fun sl : Slot => { sl with pendingSet := 0 }) (Slot.rideCut_driven _ _ _)
    · rw [hv.trans (if_neg (hcut.not.2 h)), if_neg h]
      rfl

/-- A sum over the members of a list that meet a condition. -/
theorem sum_map_filter_eq (p : SlotId → Bool) (f : SlotId → Nat) (l : List SlotId) :
    ((l.filter p).map f).sum = (l.map fun i => if p i then f i else 0).sum := by
  rw [List.sum_map_ite]
  simp

theorem countP_eq_sum (p : SlotId → Bool) (l : List SlotId) : l.countP p = (l.map fun i => if p i then 1 else 0).sum := by
  rw [List.sum_map_ite]
  simp [List.countP_eq_length_filter]

/-- What a lawful slot holds: a commitment only with its rails up, a position only while it ramps (R11, R30). -/
theorem Slot.Lawful.positionsHeld_eq {sl : Slot} (h : sl.Lawful) : sl.positionsHeld = if sl.power.inrush then 1 else 0 := by
  obtain ⟨hcommitment, hinrush, -⟩ := h
  unfold Slot.positionsHeld
  cases hc : sl.commitment with
  | none =>
    have hpower : sl.power.powered = false := by rw [← hcommitment, hc]; rfl
    have hramp : sl.power.inrush = false := by revert hpower; cases sl.power <;> decide
    rw [hramp]
    rfl
  | some c => rw [← hinrush c hc]; rfl

theorem Slot.Lawful.amount_split {sl : Slot} (h : sl.Lawful) :
    sl.amount = (if sl.cutInRestart then sl.amount else 0) + if decide (sl.power = .on) then sl.amount else 0 := by
  cases hpower : sl.power.powered with
  | false => simp [h.amount_of_unpowered hpower]
  | true => by_cases hon : sl.power = .on <;> simp [Slot.cutInRestart, hpower, hon]

/-- The cuts of a lawful state take every commitment but those of the slots in ON, and every position. -/
theorem State.PowerLawful.accounts_after_restartCuts {s : State} (h : s.PowerLawful) :
    (s.withoutHeldOf s.restartCuts).budget.committed =
      ((allSlots.filter fun i => decide ((s.slot i).power = .on)).map fun i => (s.slot i).amount).sum ∧
    (s.withoutHeldOf s.restartCuts).admission.inrushHeld = 0 := by
  obtain ⟨hslots, ⟨hcommitted, -, -, hheld, -⟩, -⟩ := h
  constructor
  · show s.budget.committed - ((allSlots.filter fun i => (s.slot i).cutInRestart).map _).sum = _
    rw [hcommitted, List.map_congr_left fun i _ => (hslots i).amount_split, List.sum_map_add, sum_map_filter_eq,
      sum_map_filter_eq]
    exact Nat.add_sub_cancel_left _ _
  · show s.admission.inrushHeld - ((allSlots.filter fun i => (s.slot i).cutInRestart).map _).sum = 0
    have hcut (i : SlotId) : (if (s.slot i).cutInRestart then (s.slot i).positionsHeld else 0) =
        if (s.slot i).power.inrush then 1 else 0 := by
      rw [(hslots i).positionsHeld_eq, Slot.cutInRestart]
      cases (s.slot i).power <;> rfl
    rw [hheld, countP_eq_sum, sum_map_filter_eq, List.map_congr_left fun i _ => hcut i]
    exact Nat.sub_self _

/-- A slot record whose window and lock operation a restart has stopped, its pending set kept (R185). -/
def Slot.uncontrolled (sl : Slot) : Slot := { sl with holdOff := none, lockTimer := none, lockEndDue := none }

theorem Slot.discardControls_of_not_lock {sl : Slot} (h : ∀ o ∈ sl.operation, o.kind.isLock = false) (now : Word32) :
    sl.discardControls now = sl.uncontrolled := by
  unfold Slot.discardControls
  dsimp only
  split
  · rename_i o ho
    rw [h o ho]
    rfl
  · rfl

theorem Slot.discardControls_of_lock {sl : Slot} (h : ∀ o ∈ sl.operation, o.kind.isLock = true) (now : Word32) :
    sl.discardControls now = sl.uncontrolled.ended .discarded now := by
  unfold Slot.discardControls
  dsimp only
  split
  · rename_i o ho
    have hended : sl.uncontrolled.operation = some o := ho
    rw [if_pos (h o ho), Slot.ended, hended]
    rfl
  · rename_i hnone
    have hended : sl.uncontrolled.operation = none := hnone
    rw [Slot.ended, hended]
    rfl

theorem Slot.ended_with_pendingSet (sl : Slot) (set : Word16) (outcome : OutcomeKind) (now : Word32) :
    ({ sl with pendingSet := set } : Slot).ended outcome now = { sl.ended outcome now with pendingSet := set } := by
  unfold Slot.ended
  dsimp only
  split <;> rfl

/-- From WAITING to READY_WAIT and in DRAIN a lawful slot has a POWER_ON or POWER_OFF in flight, elsewhere at most a lock
operation (R46). -/
theorem Slot.Lawful.operation_isLock {sl : Slot} (h : sl.Lawful) :
    ∀ o ∈ sl.operation, o.kind.isLock = !(sl.cutInRestart || decide (sl.power = .waiting)) := by
  obtain ⟨-, -, hallows, -⟩ := h
  intro o ho
  rw [Option.mem_def.1 ho, Option.map_some] at hallows
  revert hallows
  rw [Slot.cutInRestart]
  cases sl.power <;> cases o.kind <;> decide

/-- The record of a lawful slot after a ride-through restart, case by case. -/
theorem Slot.Lawful.riddenThrough_eq {sl : Slot} (h : sl.Lawful) (now : Word32) :
    sl.riddenThrough now =
      if sl.power.powered = true ∧ sl.power ≠ .on then { sl.uncontrolled.off .idle with operation := none }
      else if sl.power = .waiting then { sl.uncontrolled with power := .idle, operation := none }
      else sl.uncontrolled.ended .discarded now := by
  have hoperation := h.operation_isLock
  obtain ⟨-, -, -, -, hservice, -⟩ := h
  by_cases hcut : sl.power.powered = true ∧ sl.power ≠ .on
  · have hcuts : sl.cutInRestart = true := decide_eq_true hcut
    have hpresent : sl.lines.present.held = true := by
      refine (hservice ?_).2
      revert hcut
      cases sl.power <;> decide
    have hwaiting : sl.uncontrolled.power ≠ .waiting := fun hw => absurd hcut.1 (by rw [show sl.power = .waiting from hw]; decide)
    rw [if_pos hcut, Slot.riddenThrough, if_pos hcuts, Slot.controlsDiscarded,
      Slot.discardControls_of_not_lock (by simpa [hcuts] using hoperation), Slot.leaveWaiting, if_neg hwaiting, Slot.rideCut,
      Slot.afterRestartCut_restartState]
    exact if_pos hpresent
  · have hcuts : sl.cutInRestart = false := decide_eq_false hcut
    rw [if_neg hcut, Slot.riddenThrough, hcuts, Slot.controlsDiscarded]
    by_cases hwaiting : sl.power = .waiting
    · rw [Slot.discardControls_of_not_lock (by simpa [hwaiting] using hoperation), if_pos hwaiting]
      exact if_pos hwaiting
    · rw [Slot.discardControls_of_lock (by simpa [hcuts, hwaiting] using hoperation), if_neg hwaiting]
      refine (if_neg Bool.false_ne_true).trans (if_neg ?_)
      rw [Slot.ended]
      cases sl.uncontrolled.operation <;> exact hwaiting

/-- A ride-through restart of a lawful state, its offer lapsed, block by block. -/
theorem State.PowerLawful.rideThrough_blocks {s : State} (h : s.PowerLawful) (cause : RestartCause) :
    { ({ s.rideThrough cause with port.offerDue := false } : State) with slots := s.slots } =
      { s with
        part := { s.part with restartCause := cause, restartAsk := .none }
        port := s.port.restarted
        events := .atRestart s.part.uptime
        admission := { s.admission with queue := [], inrushHeld := 0, passDue := false }
        budget := { s.budget with
          committed := ((allSlots.filter fun i => decide ((s.slot i).power = .on)).map fun i => (s.slot i).amount).sum } } := by
  obtain ⟨hcommitted, hheld⟩ := h.accounts_after_restartCuts
  obtain ⟨-, ⟨-, -, hceiling, -⟩, -⟩ := h
  have hframe := congrArg (fun t : State => { t with port.offerDue := false }) (s.rideThrough_eq cause).1
  refine hframe.trans ?_
  rw [← hcommitted, ← hheld, ← hceiling]
  rfl

/-- Settles O52: in a lawful state the cut slots hold every position and every commitment but those of the slots in ON. -/
theorem rideThroughRestart : Obligations.RideThroughRestart := by
  intro s s0 c cause hlawful hcase
  have hexec : exec c s = .next ({ s0.rideThrough cause with port.offerDue := false } : State) := by
    rw [← State.finish_of_restarted (s0.rideThrough_port cause)]
    obtain ⟨rfl, rfl, rfl⟩ | ⟨rfl, rfl, hask, rfl⟩ := hcase
    · rfl
    · have hdue : s0.part.restartAsk.isDue = true := by rw [hask]; rfl
      refine (State.happen_of_arises _ hdue).trans ?_
      rw [State.requestedRestart, hask]
  have hlawful0 : s0.PowerLawful := by
    obtain ⟨-, -, rfl⟩ | ⟨-, -, -, rfl⟩ := hcase <;> exact hlawful
  have hs0 : s0 = { s with part.restartLine := s0.part.restartLine } := by
    obtain ⟨-, -, rfl⟩ | ⟨-, -, -, rfl⟩ := hcase <;> rfl
  have hblocks := hlawful0.rideThrough_blocks cause
  have hslot := (s0.rideThrough_eq cause).2
  refine ⟨_, hexec, congrArg State.part hblocks, ?_, ?_, ?_, ?_, ?_, fun i => (hslot i).trans ?_⟩
  · exact (congrArg State.port hblocks).trans (by rw [hs0]; rfl)
  · exact (congrArg State.events hblocks).trans (by rw [hs0]; rfl)
  · exact (congrArg State.admission hblocks).trans (by rw [hs0])
  · exact (congrArg State.budget hblocks).trans (by rw [hs0]; rfl)
  · refine (congrArg (fun t : State =>
      { t with part := s.part, port := s.port, events := s.events, admission := s.admission, budget := s.budget
               slots := s.slots }) hblocks).trans ?_
    rw [hs0]
  · rw [hs0]
    show ({ ((s.slot i).riddenThrough s.part.uptime).driven s.slow.lit s.fast.lit with pendingSet := 0 } : Slot) = _
    rw [(hlawful.1 i).riddenThrough_eq]
    split
    · rfl
    · split
      · rfl
      · have hended := Slot.ended_with_pendingSet (s.slot i).uncontrolled 0 .discarded s.part.uptime
        exact (congrArg (Slot.driven s.slow.lit s.fast.lit) hended).symm

end Sys2Proof.Machine
end

section
set_option Elab.async false -- few threads at a time: each takes its stack from the check's memory
/-! PROOFS. The laws of power as a layer: what a slot record, the accounts and the admission queue keep when one slot
changes (R11, R12, R25, R26, R30, R46). -/
namespace Sys2Proof.Machine

/-! ### The laws of one slot -/

/-- The laws of one slot record, by name. -/
structure Slot.Laws (sl : Slot) : Prop where
  commitment : sl.commitment.isSome = sl.power.powered
  inrush : ∀ c ∈ sl.commitment, c.inrush = sl.power.inrush
  operation : sl.power.allows (sl.operation.map (·.kind)) = true
  moduleClass : sl.moduleClass.isSome = (sl.hardware.enabled && sl.lines.present.held)
  service : sl.power.inService = true → sl.hardware.enabled = true ∧ sl.lines.present.held = true
  vacant : sl.power = .vacant → sl.hardware.enabled = false ∨ sl.lines.present.held = false
  faulted : sl.power = .faulted → sl.hardware.enabled = true ∧ sl.lastFault.isSome = true
  holdOff : sl.holdOff.isSome = true → sl.power.inService = true ∧ sl.buttonPolicy = .toggle
  stage : sl.power.powered = false ∨ sl.power = .on → sl.stageTimer = none ∧ sl.endDue = false
  dueMarks : sl.power.powered = false → sl.overcurrentDue = false ∧ sl.auxLostDue = false ∧ sl.mainLostDue = false
  lockTimer : sl.lockTimer.isSome = sl.lockOp.isSome

theorem Slot.lawful_iff (sl : Slot) : sl.Lawful ↔ sl.Laws := by
  constructor
  · rintro ⟨hcommitment, hinrush, hop, hclass, hservice, hvacant, hfaulted, hwindow, hstage, hdue, hlock⟩
    exact ⟨hcommitment, hinrush, hop, hclass, hservice, hvacant, hfaulted, hwindow, hstage, hdue, hlock⟩
  · rintro ⟨hcommitment, hinrush, hop, hclass, hservice, hvacant, hfaulted, hwindow, hstage, hdue, hlock⟩
    exact ⟨hcommitment, hinrush, hop, hclass, hservice, hvacant, hfaulted, hwindow, hstage, hdue, hlock⟩

/-- The inrush positions that a slot's state calls for: one while it ramps (R30). -/
def Slot.ramps (sl : Slot) : Nat := if sl.power.inrush then 1 else 0

/-- A record `b` holds and asks for what the record `a` does, and is lawful if `a` is. -/
structure Slot.Stands (a b : Slot) : Prop where
  laws : a.Laws → b.Laws
  commitment : b.commitment = a.commitment
  power : b.power = a.power
  priority : b.priority = a.priority
  operation : b.operation = a.operation

theorem Slot.Stands.refl (a : Slot) : a.Stands a := ⟨id, rfl, rfl, rfl, rfl⟩

theorem Slot.Stands.amount {a b : Slot} (h : a.Stands b) : b.amount = a.amount := by
  rw [Slot.amount, h.commitment]
  rfl

theorem Slot.Stands.ramps {a b : Slot} (h : a.Stands b) : b.ramps = a.ramps := by
  rw [Slot.ramps, h.power]
  rfl

/-! ### The accounts -/

/-- Two quantities of the slots that agree everywhere but at one slot differ in their sums as they differ there. -/
theorem sum_allSlots_change {f g : SlotId → Nat} {i : SlotId} (h : ∀ j ≠ i, f j = g j) :
    (allSlots.map f).sum + g i = (allSlots.map g).sum + f i := by
  have hsum (k : SlotId → Nat) : (allSlots.map k).sum = k i + ∑ j ∈ Finset.univ.erase i, k j := by
    rw [Finset.add_sum_erase _ _ (Finset.mem_univ i)]
    exact (Fin.sum_univ_def k).symm
  have hrest : ∑ j ∈ Finset.univ.erase i, f j = ∑ j ∈ Finset.univ.erase i, g j :=
    Finset.sum_congr rfl fun j hj => h j (Finset.ne_of_mem_erase hj)
  rw [hsum f, hsum g, hrest]
  omega

theorem le_sum_allSlots (f : SlotId → Nat) (i : SlotId) : f i ≤ (allSlots.map f).sum :=
  List.le_sum_of_mem (List.mem_map_of_mem (List.mem_finRange i))

/-- The laws of power but for those of the ceiling, by name. -/
structure State.PowerHeld (s : State) : Prop where
  slots : ∀ i, (s.slot i).Laws
  committed : s.budget.committed = (allSlots.map fun i => (s.slot i).amount).sum
  inrushHeld : s.admission.inrushHeld = (allSlots.map fun i => (s.slot i).ramps).sum
  free : s.admission.inrushHeld ≤ s.admission.positions
  positions : 1 ≤ s.admission.positions ∧ s.admission.positions ≤ 4
  queue : s.QueueLawful

theorem State.powerLawful_iff (s : State) :
    s.PowerLawful ↔ s.PowerHeld ∧ s.budget.committed ≤ s.budget.ceiling ∧ s.budget.ceiling = s.budget.computed := by
  have hcount : allSlots.countP (fun i => (s.slot i).power.inrush) = (allSlots.map fun i => (s.slot i).ramps).sum :=
    countP_eq_sum _ _
  constructor
  · rintro ⟨hslots, ⟨hcommitted, hle, hceiling, hheld, hfree, hpositions⟩, hqueue⟩
    exact ⟨⟨fun i => (s.slot i).lawful_iff.1 (hslots i), hcommitted, hheld.trans hcount, hfree, hpositions, hqueue⟩, hle,
      hceiling⟩
  · rintro ⟨⟨hslots, hcommitted, hheld, hfree, hpositions, hqueue⟩, hle, hceiling⟩
    exact ⟨fun i => (s.slot i).lawful_iff.2 (hslots i),
      ⟨hcommitted, hle, hceiling, hheld.trans hcount.symm, hfree, hpositions⟩, hqueue⟩

/-! ### The admission queue -/

/-- An entry stands for another but for its bypass count and its held-for-rise mark, which stay in range (R25, R38). -/
def QueueEntry.Stands (a b : QueueEntry) : Prop :=
  b.slot = a.slot ∧ b.priority = a.priority ∧ b.stamp = a.stamp ∧ b.origin = a.origin ∧ b.ticket = a.ticket ∧ b.bypass ≤ 15

/-- The queue's laws where some entries have left and the others stand as they did, the slots that still wait standing as
they did (R25, R28). -/
theorem State.QueueLawful.of_filter_map {s t : State} (h : s.QueueLawful) {stays : QueueEntry → Bool}
    {f : QueueEntry → QueueEntry} (hqueue : t.admission.queue = (s.admission.queue.filter stays).map f)
    (hf : ∀ e ∈ s.admission.queue, e.Stands (f e))
    (hcounter : t.admission.enqueueCounter = s.admission.enqueueCounter)
    (hwaits : ∀ i, (t.slot i).power = .waiting ↔ ∃ e ∈ s.admission.queue, e.slot = i ∧ stays e = true)
    (hslot : ∀ e ∈ s.admission.queue, stays e = true →
      (t.slot e.slot).priority = (s.slot e.slot).priority ∧ (t.slot e.slot).operation = (s.slot e.slot).operation) :
    t.QueueLawful := by
  obtain ⟨hnodup, -, hentries, hordered, hranges, htop⟩ := h
  have hmem : ∀ x ∈ t.admission.queue, ∃ e ∈ s.admission.queue, stays e = true ∧ f e = x := by
    intro x hx
    rw [hqueue] at hx
    obtain ⟨e, he, rfl⟩ := List.mem_map.1 hx
    obtain ⟨he, hstays⟩ := List.mem_filter.1 he
    exact ⟨e, he, hstays, rfl⟩
  refine ⟨?_, fun i => (hwaits i).trans ?_, fun x hx => ?_, ?_, fun x hx => ?_, hcounter ▸ htop⟩
  · have hslots : (t.admission.queue.map (·.slot)) = (s.admission.queue.filter stays).map (·.slot) := by
      rw [hqueue, List.map_map]
      exact List.map_congr_left fun e he => (hf e (List.mem_of_mem_filter he)).1
    rw [hslots]
    exact hnodup.sublist (List.filter_sublist.map _)
  · constructor
    · rintro ⟨e, he, hi, hstays⟩
      refine ⟨f e, ?_, (hf e he).1.trans hi⟩
      rw [hqueue]
      exact List.mem_map_of_mem (List.mem_filter.2 ⟨he, hstays⟩)
    · rintro ⟨x, hx, hi⟩
      obtain ⟨e, he, hstays, rfl⟩ := hmem x hx
      exact ⟨e, he, (hf e he).1.symm.trans hi, hstays⟩
  · obtain ⟨e, he, hstays, rfl⟩ := hmem x hx
    obtain ⟨hi, hpriority, -, horigin, hticket, -⟩ := hf e he
    obtain ⟨hp, ho⟩ := hslot e he hstays
    rw [hi, hpriority, horigin, hticket, hp, ho]
    exact hentries e he
  · rw [hqueue, List.pairwise_map]
    refine (hordered.sublist List.filter_sublist).imp_of_mem fun {a b} ha hb hab => ?_
    obtain ⟨-, hpa, hsa, -⟩ := hf a (List.mem_of_mem_filter ha)
    obtain ⟨-, hpb, hsb, -⟩ := hf b (List.mem_of_mem_filter hb)
    rw [QueueEntry.ahead, hpa, hsa, hpb, hsb]
    exact hab
  · obtain ⟨e, he, -, rfl⟩ := hmem x hx
    obtain ⟨-, -, hstamp, -, -, hbypass⟩ := hf e he
    rw [hcounter, hstamp]
    exact ⟨(hranges e he).1, (hranges e he).2.1, hbypass⟩

theorem QueueEntry.ahead_iff (a b : QueueEntry) :
    a.ahead b = true ↔ b.priority < a.priority ∨ (a.priority = b.priority ∧ a.stamp ≤ b.stamp) := by
  simp [QueueEntry.ahead]

/-- The queue's laws where a slot has joined it at the tail of its priority group (R23, R26). -/
theorem State.QueueLawful.of_placed {s t : State} (h : s.QueueLawful) {e : QueueEntry}
    (hqueue : t.admission.queue = queueWith e s.admission.queue)
    (hstamp : e.stamp = min stampTop (s.admission.enqueueCounter + 1)) (hcounter : t.admission.enqueueCounter = e.stamp)
    (hbypass : e.bypass ≤ 15) (habsent : (s.slot e.slot).power ≠ .waiting)
    (hjoined : (t.slot e.slot).power = .waiting ∧ e.priority = (t.slot e.slot).priority ∧
      (t.slot e.slot).operation.map (fun o => (o.ticket, o.origin)) = some (e.ticket, e.origin))
    (hother : ∀ j ≠ e.slot, (t.slot j).power = (s.slot j).power ∧ (t.slot j).priority = (s.slot j).priority ∧
      (t.slot j).operation = (s.slot j).operation) : t.QueueLawful := by
  obtain ⟨hnodup, hwaits, hentries, hordered, hranges, htop⟩ := h
  obtain ⟨hwaiting, hpriority, hoperation⟩ := hjoined
  have hmem (x : QueueEntry) : x ∈ t.admission.queue ↔ x = e ∨ x ∈ s.admission.queue := by
    rw [hqueue, ← placeEntry_eq_queueWith, mem_placeEntry]
  have hne : ∀ x ∈ s.admission.queue, x.slot ≠ e.slot := fun x hx hslot =>
    habsent ((hwaits e.slot).2 ⟨x, hx, hslot⟩)
  have hle : s.admission.enqueueCounter ≤ e.stamp := by rw [hstamp]; exact le_min htop (Nat.le_succ _)
  refine ⟨?_, fun i => ?_, fun x hx => ?_, ?_, fun x hx => ?_, ?_⟩
  · rw [hqueue, ← placeEntry_eq_queueWith, ((placeEntry_perm e s.admission.queue).map (·.slot)).nodup_iff, List.map_cons,
      List.nodup_cons]
    refine ⟨fun he => ?_, hnodup⟩
    obtain ⟨x, hx, hslot⟩ := List.mem_map.1 he
    exact hne x hx hslot
  · by_cases hi : i = e.slot
    · exact iff_of_true (hi ▸ hwaiting) ⟨e, (hmem e).2 (.inl rfl), hi.symm⟩
    · rw [(hother i hi).1, hwaits i]
      constructor
      · rintro ⟨x, hx, hslot⟩
        exact ⟨x, (hmem x).2 (.inr hx), hslot⟩
      · rintro ⟨x, hx, hslot⟩
        obtain rfl | hx := (hmem x).1 hx
        · exact absurd hslot.symm hi
        · exact ⟨x, hx, hslot⟩
  · obtain rfl | hx := (hmem x).1 hx
    · exact ⟨hpriority, hoperation⟩
    · obtain ⟨-, hp, ho⟩ := hother x.slot (hne x hx)
      rw [hp, ho]
      exact hentries x hx
  · rw [hqueue, ← placeEntry_eq_queueWith]
    refine (placeEntry_ordered e s.admission.queue (hordered.imp fun hab => (QueueEntry.ahead_iff _ _).1 hab)
      fun x hx => ((hranges x hx).2.1).trans hle).imp fun hab => (QueueEntry.ahead_iff _ _).2 hab
  · rw [hcounter]
    obtain rfl | hx := (hmem x).1 hx
    · refine ⟨?_, Nat.le_refl _, hbypass⟩
      rw [hstamp]
      exact le_min (by decide) (Nat.succ_pos _)
    · obtain ⟨hpos, hmax, hby⟩ := hranges x hx
      exact ⟨hpos, hmax.trans hle, hby⟩
  · rw [hcounter, hstamp]
    exact min_le_left _ _

/-! ### One slot changes -/

/-- From `s` to `t` the laws of power are kept, the ceiling and what gives it stay, and no more is committed. -/
def State.KeepsPower (s t : State) : Prop :=
  s.PowerHeld →
    t.PowerHeld ∧ t.budget.committed ≤ s.budget.committed ∧ t.budget.ceiling = s.budget.ceiling ∧
      t.budget.computed = s.budget.computed

theorem State.KeepsPower.refl (s : State) : s.KeepsPower s := fun h => ⟨h, Nat.le_refl _, rfl, rfl⟩

theorem State.KeepsPower.trans {s t u : State} (hst : s.KeepsPower t) (htu : t.KeepsPower u) : s.KeepsPower u := by
  intro h
  obtain ⟨ht, hle, hceiling, hcomputed⟩ := hst h
  obtain ⟨hu, hle', hceiling', hcomputed'⟩ := htu ht
  exact ⟨hu, hle'.trans hle, hceiling'.trans hceiling, hcomputed'.trans hcomputed⟩

theorem State.KeepsPower.lawful {s t : State} (h : s.KeepsPower t) (hs : s.PowerLawful) : t.PowerLawful := by
  obtain ⟨hheld, hle, hceiling⟩ := s.powerLawful_iff.1 hs
  obtain ⟨ht, hless, hsame, hcomputed⟩ := h hheld
  refine t.powerLawful_iff.2 ⟨ht, ?_, ?_⟩
  · rw [hsame]
    exact hless.trans hle
  · rw [hsame, hcomputed]
    exact hceiling

/-- Records, accounts and queue that stand as they did keep the laws. -/
theorem State.PowerHeld.of_stands {s t : State} (h : s.PowerHeld) (hslot : ∀ i, (s.slot i).Stands (t.slot i))
    (hcommitted : t.budget.committed = s.budget.committed) (hheld : t.admission.inrushHeld = s.admission.inrushHeld)
    (hfree : t.admission.inrushHeld ≤ t.admission.positions)
    (hpositions : 1 ≤ t.admission.positions ∧ t.admission.positions ≤ 4)
    (hqueue : ∃ f : QueueEntry → QueueEntry, t.admission.queue = s.admission.queue.map f ∧
      ∀ e ∈ s.admission.queue, e.Stands (f e))
    (hcounter : t.admission.enqueueCounter = s.admission.enqueueCounter) : t.PowerHeld where
  slots i := (hslot i).laws (h.slots i)
  committed := by
    rw [hcommitted, h.committed]
    exact congrArg List.sum (List.map_congr_left fun i _ => (hslot i).amount.symm)
  inrushHeld := by
    rw [hheld, h.inrushHeld]
    exact congrArg List.sum (List.map_congr_left fun i _ => (hslot i).ramps.symm)
  free := hfree
  positions := hpositions
  queue := by
    obtain ⟨f, hmap, hf⟩ := hqueue
    obtain ⟨-, hwaits, -⟩ := h.queue
    refine h.queue.of_filter_map (stays := fun _ => true) (f := f) ?_ hf hcounter (fun i => ?_)
      fun e _ _ => ⟨(hslot e.slot).priority, (hslot e.slot).operation⟩
    · rw [List.filter_true]
      exact hmap
    · rw [(hslot i).power, hwaits i]
      simp

/-- Nothing that the laws of power read has changed. -/
theorem State.KeepsPower.of_stands {s t : State} (hslot : ∀ i, (s.slot i).Stands (t.slot i))
    (hbudget : t.budget.committed = s.budget.committed ∧ t.budget.ceiling = s.budget.ceiling ∧
      t.budget.computed = s.budget.computed)
    (hadmission : t.admission.inrushHeld = s.admission.inrushHeld ∧ t.admission.positions = s.admission.positions ∧
      t.admission.queue = s.admission.queue ∧ t.admission.enqueueCounter = s.admission.enqueueCounter) :
    s.KeepsPower t := by
  intro h
  obtain ⟨hcommitted, hceiling, hcomputed⟩ := hbudget
  obtain ⟨hheld, hpositions, hqueue, hcounter⟩ := hadmission
  refine ⟨h.of_stands hslot hcommitted hheld ?_ ?_ ⟨id, ?_, fun e he => ?_⟩ hcounter, hcommitted.le, hceiling, hcomputed⟩
  · rw [hheld, hpositions]
    exact h.free
  · rw [hpositions]
    exact h.positions
  · rw [List.map_id]
    exact hqueue
  · obtain ⟨-, -, -, -, hranges, -⟩ := h.queue
    exact ⟨rfl, rfl, rfl, rfl, rfl, (hranges e he).2.2⟩

/-- One slot changes, its commitment and its position given back in part or whole, and the queue stays lawful. -/
theorem State.KeepsPower.of_slot {s t : State} {i : SlotId} (hothers : ∀ j ≠ i, (s.slot j).Stands (t.slot j))
    (hlaws : s.PowerHeld → (t.slot i).Laws)
    (hamount : s.PowerHeld → t.budget.committed = s.budget.committed - ((s.slot i).amount - (t.slot i).amount) ∧
      (t.slot i).amount ≤ (s.slot i).amount)
    (hramps : s.PowerHeld → t.admission.inrushHeld = s.admission.inrushHeld - ((s.slot i).ramps - (t.slot i).ramps) ∧
      (t.slot i).ramps ≤ (s.slot i).ramps)
    (hbudget : t.budget.ceiling = s.budget.ceiling ∧ t.budget.computed = s.budget.computed)
    (hpositions : t.admission.positions = s.admission.positions) (hqueue : s.PowerHeld → t.QueueLawful) :
    s.KeepsPower t := by
  intro h
  obtain ⟨hcommitted, hless⟩ := hamount h
  obtain ⟨hheld, hfewer⟩ := hramps h
  obtain ⟨hceiling, hcomputed⟩ := hbudget
  have hsum := sum_allSlots_change (f := fun j => (t.slot j).amount) (g := fun j => (s.slot j).amount)
    fun j hj => (hothers j hj).amount
  have hcount := sum_allSlots_change (f := fun j => (t.slot j).ramps) (g := fun j => (s.slot j).ramps)
    fun j hj => (hothers j hj).ramps
  have hin := le_sum_allSlots (fun j => (s.slot j).amount) i
  have hup := le_sum_allSlots (fun j => (s.slot j).ramps) i
  have hold := h.committed
  have hheldOld := h.inrushHeld
  refine ⟨⟨fun j => ?_, by omega, by omega, ?_, ?_, hqueue h⟩, by omega, hceiling, hcomputed⟩
  · by_cases hj : j = i
    · exact hj ▸ hlaws h
    · exact (hothers j hj).laws (h.slots j)
  · have hfree := h.free
    omega
  · rw [hpositions]
    exact h.positions

/-- Writing a record down, its outputs driven and its pending set grown, leaves it standing. -/
theorem Slot.Stands.written (sl : Slot) (set : Word16) (slowLit fastLit : Bool) :
    sl.Stands (({ sl with pendingSet := set } : Slot).driven slowLit fastLit) :=
  ⟨fun h => { h with }, rfl, rfl, rfl, rfl⟩

theorem Slot.Stands.trans {a b c : Slot} (hab : a.Stands b) (hbc : b.Stands c) : a.Stands c :=
  ⟨hbc.laws ∘ hab.laws, hbc.commitment.trans hab.commitment, hbc.power.trans hab.power, hbc.priority.trans hab.priority,
    hbc.operation.trans hab.operation⟩

section
variable {s b : State} {i : SlotId} {sl : Slot}

theorem State.stands_becomes (b : State) (i : SlotId) (sl : Slot) (os : List Occurrence) :
    sl.Stands ((b.becomes i sl os).slot i) := by
  rw [State.slot_becomes_same]
  exact .written _ _ _ _

/-- A slot takes a record that stands for its own; beside it only what the laws of power do not read has changed. -/
theorem State.KeepsPower.becomes_stands (hslot : (s.slot i).Stands sl) (os : List Occurrence) (hslots : b.slots = s.slots)
    (hbudget : b.budget = s.budget)
    (hadmission : b.admission.inrushHeld = s.admission.inrushHeld ∧ b.admission.positions = s.admission.positions ∧
      b.admission.queue = s.admission.queue ∧ b.admission.enqueueCounter = s.admission.enqueueCounter) :
    s.KeepsPower (b.becomes i sl os) := by
  refine .of_stands (fun j => ?_) ⟨?_, ?_, ?_⟩ hadmission
  · by_cases hj : j = i
    · exact hj ▸ hslot.trans (b.stands_becomes i sl os)
    · rw [State.slot_becomes_ne _ _ _ hj, State.slot_eq_of_slots hslots]
      exact .refl _
  · exact congrArg Budget.committed hbudget
  · exact congrArg Budget.ceiling hbudget
  · exact congrArg Budget.computed hbudget

theorem State.KeepsPower.upd_stands (s : State) (i : SlotId) {f : Slot → Slot} (h : (s.slot i).Stands (f (s.slot i))) :
    s.KeepsPower (s.upd i f) := by
  rw [State.upd_eq_becomes]
  exact .becomes_stands h [] rfl rfl ⟨rfl, rfl, rfl, rfl⟩

/-- A slot that does not wait changes its record and its state, and gives back what it no longer holds. -/
theorem State.KeepsPower.becomes_of (os : List Occurrence) (hslots : b.slots = s.slots)
    (hlaws : (s.slot i).Laws → sl.Laws)
    (hamount : s.PowerHeld → b.budget.committed = s.budget.committed - ((s.slot i).amount - sl.amount) ∧
      sl.amount ≤ (s.slot i).amount)
    (hramps : s.PowerHeld → b.admission.inrushHeld = s.admission.inrushHeld - ((s.slot i).ramps - sl.ramps) ∧
      sl.ramps ≤ (s.slot i).ramps)
    (hbudget : b.budget.ceiling = s.budget.ceiling ∧ b.budget.computed = s.budget.computed)
    (hadmission : b.admission.positions = s.admission.positions ∧ b.admission.queue = s.admission.queue ∧
      b.admission.enqueueCounter = s.admission.enqueueCounter)
    (hwaiting : (s.slot i).power ≠ .waiting ∧ sl.power ≠ .waiting) : s.KeepsPower (b.becomes i sl os) := by
  have hwritten := b.stands_becomes i sl os
  have hothers (j : SlotId) (hj : j ≠ i) : (b.becomes i sl os).slot j = s.slot j := by
    rw [State.slot_becomes_ne _ _ _ hj, State.slot_eq_of_slots hslots]
  obtain ⟨hpositions, hqueue, hcounter⟩ := hadmission
  refine .of_slot (i := i) (fun j hj => hothers j hj ▸ .refl _) (fun h => hwritten.laws (hlaws (h.slots i)))
    (fun h => hwritten.amount.symm ▸ hamount h) (fun h => hwritten.ramps.symm ▸ hramps h) hbudget hpositions fun h => ?_
  obtain ⟨-, hwaits, -, -, hranges, -⟩ := h.queue
  have hapart : ∀ e ∈ s.admission.queue, e.slot ≠ i := fun e he hslot => hwaiting.1 ((hwaits i).2 ⟨e, he, hslot⟩)
  refine h.queue.of_filter_map (stays := fun _ => true) (f := id) ?_
    (fun e he => ⟨rfl, rfl, rfl, rfl, rfl, (hranges e he).2.2⟩) hcounter (fun j => ?_) fun e he _ => ?_
  · rw [List.filter_true, List.map_id]
    exact hqueue
  · by_cases hj : j = i
    · subst hj
      rw [hwritten.power]
      refine iff_of_false hwaiting.2 ?_
      rintro ⟨e, he, hslot, -⟩
      exact hapart e he hslot
    · rw [hothers j hj, hwaits j]
      simp
  · rw [hothers e.slot (hapart e he)]
    exact ⟨rfl, rfl⟩

/-- A slot that does not wait changes its record and its state, and goes on holding what it holds. -/
theorem State.KeepsPower.becomes_record (os : List Occurrence) (hslots : b.slots = s.slots) (hbudget : b.budget = s.budget)
    (hadmission : b.admission.inrushHeld = s.admission.inrushHeld ∧ b.admission.positions = s.admission.positions ∧
      b.admission.queue = s.admission.queue ∧ b.admission.enqueueCounter = s.admission.enqueueCounter)
    (hlaws : (s.slot i).Laws → sl.Laws) (hcommitment : sl.commitment = (s.slot i).commitment)
    (hinrush : sl.power.inrush = (s.slot i).power.inrush)
    (hwaiting : (s.slot i).power ≠ .waiting ∧ sl.power ≠ .waiting) : s.KeepsPower (b.becomes i sl os) := by
  obtain ⟨hheld, hrest⟩ := hadmission
  have hamount : sl.amount = (s.slot i).amount := by rw [Slot.amount, hcommitment]; rfl
  have hramps : sl.ramps = (s.slot i).ramps := by rw [Slot.ramps, hinrush]; rfl
  refine .becomes_of os hslots hlaws (fun _ => ⟨?_, hamount.le⟩) (fun _ => ⟨?_, hramps.le⟩)
    ⟨congrArg Budget.ceiling hbudget, congrArg Budget.computed hbudget⟩ hrest hwaiting
  · rw [hamount, Nat.sub_self]
    exact congrArg Budget.committed hbudget
  · rw [hramps, Nat.sub_self]
    exact hheld

/-- What a lawful slot's release gives back (R13). -/
theorem State.PowerHeld.afterRelease (h : s.PowerHeld) (i : SlotId) :
    (s.afterRelease i).budget.committed = s.budget.committed - (s.slot i).amount ∧
    (s.afterRelease i).admission.inrushHeld = s.admission.inrushHeld - (s.slot i).ramps := by
  have hlaws := h.slots i
  unfold State.afterRelease
  split
  · rename_i hnone
    have hpowered : (s.slot i).power.powered = false := by rw [← hlaws.commitment, hnone]; rfl
    have hinrush : (s.slot i).power.inrush = false := by revert hpowered; cases (s.slot i).power <;> decide
    rw [Slot.amount, hnone, Slot.ramps, hinrush]
    exact ⟨rfl, rfl⟩
  · rename_i c hsome
    rw [Slot.amount, hsome, Slot.ramps, ← hlaws.inrush c hsome]
    exact ⟨rfl, rfl⟩

theorem State.afterRelease_slots (s : State) (i : SlotId) : (s.afterRelease i).slots = s.slots := by
  unfold State.afterRelease
  split <;> rfl

/-- A slot goes without power: its commitment and its position are released (R13, R62). -/
theorem State.KeepsPower.becomes_released (os : List Occurrence) (hslots : b.slots = s.slots)
    (hbudget : b.budget = (s.afterRelease i).budget) (hadmission : b.admission = (s.afterRelease i).admission)
    (hlaws : (s.slot i).Laws → sl.Laws) (hcommitment : sl.commitment = none) (hinrush : sl.power.inrush = false)
    (hwaiting : (s.slot i).power ≠ .waiting ∧ sl.power ≠ .waiting) : s.KeepsPower (b.becomes i sl os) := by
  have hamount : sl.amount = 0 := by rw [Slot.amount, hcommitment]
  have hramps : sl.ramps = 0 := by rw [Slot.ramps, hinrush]; rfl
  refine .becomes_of os hslots hlaws (fun h => ?_) (fun h => ?_) ?_ ?_ hwaiting
  · rw [hamount, hbudget]
    exact ⟨(h.afterRelease i).1, Nat.zero_le _⟩
  · rw [hramps, hadmission]
    exact ⟨(h.afterRelease i).2, Nat.zero_le _⟩
  · rw [hbudget]
    unfold State.afterRelease
    split <;> exact ⟨rfl, rfl⟩
  · rw [hadmission]
    unfold State.afterRelease
    split <;> exact ⟨rfl, rfl, rfl⟩

/-- An IDLE slot without a lock operation is lawful in the queue (R23). -/
theorem Slot.Laws.joined (h : sl.Laws) (hidle : sl.power = .idle) (hlock : sl.lockOp = none) (origin : Origin)
    (ticket : Nat) (now : Word32) : (sl.joined origin ticket now).Laws := by
  have hlawful := h.commitment
  have hservice := h.service
  have hwindow := h.holdOff
  have hstage := h.stage
  have hdue := h.dueMarks
  have htimer := h.lockTimer
  rw [hidle] at hlawful hservice hwindow hstage hdue
  rw [hlock] at htimer
  have hnone : sl.commitment = none := Option.isNone_iff_eq_none.1 (Option.isSome_eq_false_iff.1 hlawful)
  exact
    { commitment := hlawful
      inrush := fun c hc => absurd hc (by rw [show (sl.joined origin ticket now).commitment = none from hnone]; nofun)
      operation := rfl
      moduleClass := h.moduleClass
      service := hservice
      vacant := fun hvacant => PowerState.noConfusion hvacant
      faulted := fun hfaulted => PowerState.noConfusion hfaulted
      holdOff := hwindow
      stage := fun _ => hstage (.inl rfl)
      dueMarks := hdue
      lockTimer := htimer }

/-- A slot without power joins the queue (R23). -/
theorem State.KeepsPower.joins (origin : Origin) (mark : Bool) (ticket : Nat) (now : Word32) (os : List Occurrence)
    (hticket : ticket = s.part.ticketCounter)
    (hslot : (s.slot i).Stands sl) (hidle : (s.slot i).power = .idle) (hlock : sl.lockOp = none) :
    s.KeepsPower ((s.afterJoin i origin mark).becomes i (sl.joined origin ticket now) os) := by
  have hwritten := (s.afterJoin i origin mark).stands_becomes i (sl.joined origin ticket now) os
  have hothers (j : SlotId) (hj : j ≠ i) : ((s.afterJoin i origin mark).becomes i (sl.joined origin ticket now) os).slot j =
      s.slot j := State.slot_becomes_ne _ _ _ hj
  have hcommitment : (sl.joined origin ticket now).commitment = (s.slot i).commitment := hslot.commitment
  have hamount : (sl.joined origin ticket now).amount = (s.slot i).amount := by rw [Slot.amount, hcommitment]; rfl
  have hramps : (sl.joined origin ticket now).ramps = (s.slot i).ramps := by rw [Slot.ramps, Slot.ramps, hidle]; rfl
  refine .of_slot (i := i) (fun j hj => hothers j hj ▸ .refl _) (fun h => hwritten.laws ?_)
    (fun _ => ?_) (fun _ => ?_) ⟨rfl, rfl⟩ rfl fun h => ?_
  · exact (hslot.laws (h.slots i)).joined (hslot.power.trans hidle) hlock origin ticket now
  · rw [hwritten.amount, hamount, Nat.sub_self]
    exact ⟨rfl, Nat.le_refl _⟩
  · rw [hwritten.ramps, hramps, Nat.sub_self]
    exact ⟨rfl, Nat.le_refl _⟩
  · refine h.queue.of_placed rfl rfl rfl (Nat.zero_le _) ?_ ⟨?_, ?_, ?_⟩ fun j hj => ?_
    · show (s.slot i).power ≠ .waiting
      rw [hidle]
      decide
    · exact hwritten.power
    · exact (hwritten.priority.trans hslot.priority).symm
    · show Option.map _ (((s.afterJoin i origin mark).becomes i (sl.joined origin ticket now) os).slot i).operation = _
      rw [hwritten.operation, hticket]
      rfl
    · rw [hothers j hj]
      exact ⟨rfl, rfl, rfl⟩

/-- A WAITING slot leaves the queue other than by admission (R28). -/
theorem State.KeepsPower.leaves (os : List Occurrence) (hwaiting : (s.slot i).power = .waiting)
    (hlaws : (s.slot i).Laws → sl.Laws) (hpower : sl.power.powered = false ∧ sl.power ≠ .waiting) :
    s.KeepsPower ((s.leaveQueue i).becomes i sl os) := by
  have hwritten := (s.leaveQueue i).stands_becomes i sl os
  have hothers (j : SlotId) (hj : j ≠ i) : ((s.leaveQueue i).becomes i sl os).slot j = s.slot j :=
    State.slot_becomes_ne _ _ _ hj
  have hunpowered {x : Slot} (hx : x.Laws) (hoff : x.power.powered = false) : x.amount = 0 :=
    (x.lawful_iff.2 hx).amount_of_unpowered hoff
  have hold (h : s.PowerHeld) : (s.slot i).amount = 0 := hunpowered (h.slots i) (by rw [hwaiting]; rfl)
  have hnew (h : s.PowerHeld) : sl.amount = 0 := hunpowered (hlaws (h.slots i)) hpower.1
  have hramps : sl.ramps = 0 ∧ (s.slot i).ramps = 0 := by
    obtain ⟨hoff, -⟩ := hpower
    rw [Slot.ramps, Slot.ramps, hwaiting]
    refine ⟨?_, rfl⟩
    revert hoff
    cases sl.power <;> decide
  refine .of_slot (i := i) (fun j hj => hothers j hj ▸ .refl _) (fun h => hwritten.laws (hlaws (h.slots i)))
    (fun h => ?_) (fun _ => ?_) ⟨rfl, rfl⟩ rfl fun h => ?_
  · rw [hwritten.amount, hnew h, hold h]
    exact ⟨rfl, Nat.le_refl _⟩
  · rw [hwritten.ramps, hramps.1, hramps.2]
    exact ⟨rfl, Nat.le_refl _⟩
  · obtain ⟨-, hwaits, -, -, hranges, -⟩ := h.queue
    refine h.queue.of_filter_map (stays := fun e => decide (e.slot ≠ i)) (f := id) ?_
      (fun e he => ⟨rfl, rfl, rfl, rfl, rfl, (hranges e he).2.2⟩) rfl (fun j => ?_) fun e _ hstays => ?_
    · rw [List.map_id]
      rfl
    · by_cases hj : j = i
      · subst hj
        rw [hwritten.power]
        refine iff_of_false hpower.2 ?_
        rintro ⟨e, -, hslot, hstays⟩
        exact of_decide_eq_true hstays hslot
      · rw [hothers j hj, hwaits j]
        constructor
        · rintro ⟨e, he, hslot⟩
          exact ⟨e, he, hslot, decide_eq_true (hslot ▸ hj)⟩
        · rintro ⟨e, he, hslot, -⟩
          exact ⟨e, he, hslot⟩
    · rw [hothers e.slot (of_decide_eq_true hstays)]
      exact ⟨rfl, rfl⟩

end

end Sys2Proof.Machine
end

section
set_option Elab.async false -- few threads at a time: each takes its stack from the check's memory
/-! PROOFS. The records that the happenings write are lawful (R11, R46, R51, R62, R91, R110). -/
namespace Sys2Proof.Machine

section
variable {sl : Slot}

/-- From WAITING to DRAIN no lock operation is in flight (R46), and so no lock deadline runs. -/
theorem Slot.Laws.lockOp_eq_none (h : sl.Laws) (hservice : sl.power.inService = true) (hidle : sl.power ≠ .idle) :
    sl.lockOp = none := by
  have hallows := h.operation
  unfold Slot.lockOp
  cases ho : sl.operation with
  | none => rfl
  | some o =>
    rw [ho, Option.map_some] at hallows
    refine if_neg ?_
    revert hallows hservice hidle
    cases sl.power <;> cases o.kind <;> decide

theorem Slot.Laws.lockTimer_eq_none (h : sl.Laws) (hlock : sl.lockOp = none) : sl.lockTimer = none :=
  Option.isNone_iff_eq_none.1 (Option.isSome_eq_false_iff.1 (by rw [h.lockTimer, hlock]; rfl))

theorem Slot.Laws.commitment_eq_none (h : sl.Laws) (hpower : sl.power.powered = false) : sl.commitment = none :=
  Option.isNone_iff_eq_none.1 (Option.isSome_eq_false_iff.1 (h.commitment.trans hpower))

theorem PowerState.inService_of_powered {p : PowerState} (h : p.powered = true) : p.inService = true ∧ p ≠ .idle := by
  revert h
  cases p <;> decide

/-- The end of the operation is lawful if the record without it is: the last outcome is bound by no law of power (R49). -/
theorem Slot.Laws.ended (h : ({ sl with operation := none } : Slot).Laws) (outcome : OutcomeKind) (now : Word32) :
    (sl.ended outcome now).Laws := by
  unfold Slot.ended
  split
  · rename_i hnone
    rw [← hnone] at h
    exact h
  · exact { h with }

theorem Slot.ended_power (sl : Slot) (outcome : OutcomeKind) (now : Word32) :
    (sl.ended outcome now).power = sl.power ∧ (sl.ended outcome now).commitment = sl.commitment := by
  unfold Slot.ended
  split <;> exact ⟨rfl, rfl⟩

/-- A slot cut from power, its operation gone, is a lawful IDLE one (R62). -/
theorem Slot.Laws.off_idle (h : sl.Laws) (hpower : sl.power.powered = true) :
    ({ sl.off .idle with operation := none } : Slot).Laws := by
  obtain ⟨hservice, hnotIdle⟩ := PowerState.inService_of_powered hpower
  have htimer := h.lockTimer_eq_none (h.lockOp_eq_none hservice hnotIdle)
  exact
    { commitment := rfl
      inrush := forall_mem_none
      operation := rfl
      moduleClass := h.moduleClass
      service := fun _ => h.service hservice
      vacant := fun hvacant => PowerState.noConfusion hvacant
      faulted := fun hfaulted => PowerState.noConfusion hfaulted
      holdOff := fun hwindow => ⟨rfl, (h.holdOff hwindow).2⟩
      stage := fun _ => ⟨rfl, rfl⟩
      dueMarks := fun _ => ⟨rfl, rfl, rfl⟩
      lockTimer := congrArg Option.isSome htimer }

/-- A WAITING slot whose operation is gone is a lawful IDLE one (R64). -/
theorem Slot.Laws.waiting_to_idle (h : sl.Laws) (hwaiting : sl.power = .waiting) :
    ({ sl with power := .idle, operation := none } : Slot).Laws := by
  have hservice : sl.power.inService = true := by rw [hwaiting]; rfl
  have hpower : sl.power.powered = false := by rw [hwaiting]; rfl
  have hnone := h.commitment_eq_none hpower
  have htimer := h.lockTimer_eq_none (h.lockOp_eq_none hservice (by rw [hwaiting]; decide))
  exact
    { commitment := congrArg Option.isSome hnone
      inrush := fun c hc => (h.inrush c hc).trans (by rw [hwaiting]; rfl)
      operation := rfl
      moduleClass := h.moduleClass
      service := fun _ => h.service hservice
      vacant := fun hvacant => PowerState.noConfusion hvacant
      faulted := fun hfaulted => PowerState.noConfusion hfaulted
      holdOff := fun hwindow => ⟨rfl, (h.holdOff hwindow).2⟩
      stage := fun _ => h.stage (.inl hpower)
      dueMarks := fun _ => h.dueMarks hpower
      lockTimer := congrArg Option.isSome htimer }

/-- A WAITING slot whose operation is cancelled is lawful (R64). -/
theorem Slot.Laws.cancelled (h : sl.Laws) (hwaiting : sl.power = .waiting) (now : Word32) : (sl.cancelled now).Laws := by
  have hidle := h.waiting_to_idle hwaiting
  unfold Slot.cancelled Slot.ended
  split
  · rename_i hnone
    rw [← hnone] at hidle
    exact hidle
  · exact { hidle with }

/-- A powered slot that faults is lawful (R99). -/
theorem Slot.Laws.faults (h : sl.Laws) (hpower : sl.power.powered = true) (kind : FaultKind) (now : Word32) :
    (sl.faulted kind now).Laws := by
  obtain ⟨hservice, hnotIdle⟩ := PowerState.inService_of_powered hpower
  have htimer := h.lockTimer_eq_none (h.lockOp_eq_none hservice hnotIdle)
  have hended : (sl.off .faulted).ended .fault now =
      { sl.off .faulted with operation := none, lastOutcome := ((sl.off .faulted).ended .fault now).lastOutcome } := by
    unfold Slot.ended
    split
    · rename_i hnone
      rw [← hnone]
    · rfl
  unfold Slot.faulted
  rw [hended]
  exact
    { commitment := rfl
      inrush := forall_mem_none
      operation := rfl
      moduleClass := h.moduleClass
      service := fun hbusy => Bool.noConfusion hbusy
      vacant := fun hvacant => PowerState.noConfusion hvacant
      faulted := fun _ => ⟨(h.service hservice).1, rfl⟩
      holdOff := fun hwindow => Bool.noConfusion hwindow
      stage := fun _ => ⟨rfl, rfl⟩
      dueMarks := fun _ => ⟨rfl, rfl, rfl⟩
      lockTimer := congrArg Option.isSome htimer }

/-- A slot in service, not IDLE, is lawful in a powered state with a commitment and an operation that the state calls for
(R11, R46, R51). -/
theorem Slot.Laws.powers (h : sl.Laws) (hservice : sl.power.inService = true) (hnotIdle : sl.power ≠ .idle)
    {p : PowerState} (hp : p.powered = true) {c : Option Commitment} (hc : c.isSome = true ∧ ∀ x ∈ c, x.inrush = p.inrush)
    {op : Option Operation} (hop : p.allows (op.map (·.kind)) = true) {t : Option Nat} {e : Bool}
    (hon : p = .on → t = none ∧ e = false) (o a m r : Bool) :
    ({ sl with
      power := p, commitment := c, operation := op, stageTimer := t, endDue := e, overcurrentDue := o, auxLostDue := a
      mainLostDue := m, readyRequired := r } : Slot).Laws := by
  have htimer := h.lockTimer_eq_none (h.lockOp_eq_none hservice hnotIdle)
  have hlock : ∀ x : Slot, x.operation = op → x.lockOp = none := by
    intro x hx
    unfold Slot.lockOp
    rw [hx]
    cases op with
    | none => rfl
    | some o =>
      rw [Option.map_some] at hop
      refine if_neg ?_
      revert hop hp
      cases p <;> cases o.kind <;> decide
  obtain ⟨hserves, -⟩ := PowerState.inService_of_powered hp
  exact
    { commitment := hc.1.trans hp.symm
      inrush := hc.2
      operation := hop
      moduleClass := h.moduleClass
      service := fun _ => h.service hservice
      vacant := fun hvacant => absurd hp (by rw [show p = .vacant from hvacant]; decide)
      faulted := fun hfaulted => absurd hp (by rw [show p = .faulted from hfaulted]; decide)
      holdOff := fun hwindow => ⟨hserves, (h.holdOff hwindow).2⟩
      stage := fun hidle => hidle.elim (fun hoff => absurd (hp.symm.trans hoff) (by decide)) hon
      dueMarks := fun hoff => absurd (hp.symm.trans hoff) (by decide)
      lockTimer := (congrArg Option.isSome htimer).trans (congrArg Option.isSome (hlock _ rfl)).symm }

/-- From WAITING to READY_WAIT the operation in flight is a POWER_ON (R46). -/
theorem Slot.Laws.operation_powerOn (h : sl.Laws)
    (hpower : (sl.power.inService && decide (sl.power ∉ [.idle, .on, .drain])) = true) :
    sl.operation.map (·.kind) = some .powerOn := by
  have hallows := h.operation
  revert hallows hpower
  cases sl.operation.map (·.kind) with
  | none => cases sl.power <;> decide
  | some k => cases sl.power <;> cases k <;> decide

theorem Slot.Laws.holds (h : sl.Laws) (hpower : sl.power.powered = true) {p : PowerState} (hinrush : p.inrush = sl.power.inrush) :
    sl.commitment.isSome = true ∧ ∀ x ∈ sl.commitment, x.inrush = p.inrush :=
  ⟨h.commitment.trans hpower, fun x hx => (h.inrush x hx).trans hinrush.symm⟩

/-- AUX_RAMP ends lawfully (R56). -/
theorem Slot.Laws.auxRamped (h : sl.Laws) (hpower : sl.power = .auxRamp) (p : Profile) (byDueEnd : Bool) :
    (sl.auxRamped p byDueEnd).Laws := by
  have hop : PowerState.mainRamp.allows (sl.operation.map (·.kind)) = true := by
    rw [h.operation_powerOn (by rw [hpower]; rfl)]
    rfl
  exact h.powers (by rw [hpower]; rfl) (by rw [hpower]; decide) rfl (h.holds (by rw [hpower]; rfl) (by rw [hpower]; rfl)) hop
    (fun hon => PowerState.noConfusion hon) _ _ _ _

/-- MAIN_RAMP ends lawfully (R57). -/
theorem Slot.Laws.mainRamped (h : sl.Laws) (hpower : sl.power = .mainRamp) (p : Profile) (byDueEnd : Bool) :
    (sl.mainRamped p byDueEnd).Laws := by
  have hop : PowerState.settle.allows (sl.operation.map (·.kind)) = true := by
    rw [h.operation_powerOn (by rw [hpower]; rfl)]
    rfl
  exact h.powers (by rw [hpower]; rfl) (by rw [hpower]; decide) rfl (h.holds (by rw [hpower]; rfl) (by rw [hpower]; rfl)) hop
    (fun hon => PowerState.noConfusion hon) _ _ _ _

/-- A slot reaches ON lawfully (R59). -/
theorem Slot.Laws.switchedOn (h : sl.Laws) (hpower : sl.power = .readyWait) (readyRequired : Bool) (now : Word32) :
    ((sl.switchedOn readyRequired).ended .done now).Laws :=
  Slot.Laws.ended (h.powers (by rw [hpower]; rfl) (by rw [hpower]; decide) rfl
    (h.holds (by rw [hpower]; rfl) (by rw [hpower]; rfl)) (op := none) rfl (fun _ => ⟨rfl, rfl⟩) _ _ _ _) _ _

/-- A commitment whose position is freed (R14). -/
theorem Slot.Laws.inrush_freed (h : sl.Laws) (hpower : sl.power.powered = true) {p : PowerState} (hp : p.inrush = false) :
    (sl.commitment.map fun c => ({ c with inrush := false } : Commitment)).isSome = true ∧
      ∀ x ∈ sl.commitment.map fun c => ({ c with inrush := false } : Commitment), x.inrush = p.inrush := by
  refine ⟨by rw [Option.isSome_map]; exact h.commitment.trans hpower, fun x hx => ?_⟩
  obtain ⟨c, -, rfl⟩ := Option.map_eq_some_iff.1 hx
  exact hp.symm

/-- The settle time ends lawfully (R14, R58). -/
theorem Slot.Laws.settled (h : sl.Laws) (hpower : sl.power = .settle) (p : Profile) (now : Word32) :
    (sl.settled p now).Laws := by
  have hservice : sl.power.inService = true := by rw [hpower]; rfl
  have hnotIdle : sl.power ≠ .idle := by rw [hpower]; decide
  have hpowered : sl.power.powered = true := by rw [hpower]; rfl
  have hop : PowerState.readyWait.allows (sl.operation.map (·.kind)) = true := by
    rw [h.operation_powerOn (by rw [hpower]; rfl)]
    rfl
  unfold Slot.settled
  dsimp only
  split
  · exact h.powers hservice hnotIdle rfl (h.inrush_freed hpowered rfl) hop (fun hon => PowerState.noConfusion hon) _ _ _ _
  · exact Slot.Laws.ended (h.powers hservice hnotIdle rfl (h.inrush_freed hpowered rfl) (op := none) rfl
      (fun _ => ⟨rfl, rfl⟩) _ _ _ _) _ _

/-- A slot in ON starts to drain lawfully (R70). -/
theorem Slot.Laws.draining (h : sl.Laws) (hpower : sl.power = .on) {o : Operation} (ho : o.kind = .powerOff) (p : Profile) :
    ((sl.starting o).draining p).Laws := by
  have hallows : PowerState.drain.allows ((some o).map (·.kind)) = true := by rw [Option.map_some, ho]; rfl
  have hdrains := h.powers (t := timeoutMs p.graceCode)
    (e := if p.readyRequired then !sl.lines.ready.held else decide (p.graceCode = 15)) (by rw [hpower]; rfl)
    (by rw [hpower]; decide) (p := .drain) rfl (h.holds (by rw [hpower]; rfl) (by rw [hpower]; rfl)) hallows
    (fun hon => PowerState.noConfusion hon) sl.overcurrentDue sl.auxLostDue sl.mainLostDue p.readyRequired
  exact { hdrains with }

/-- A WAITING slot is admitted lawfully (R39, R55). -/
theorem Slot.Laws.admitted (h : sl.Laws) (hpower : sl.power = .waiting) (p : Profile) (draw stamp : Nat) :
    (sl.admitted p draw stamp).Laws := by
  have hop : PowerState.auxRamp.allows (sl.operation.map (·.kind)) = true := by
    rw [h.operation_powerOn (by rw [hpower]; rfl)]
    rfl
  refine h.powers (by rw [hpower]; rfl) (by rw [hpower]; decide) rfl ⟨rfl, fun x hx => ?_⟩ hop
    (fun hon => PowerState.noConfusion hon) _ _ _ _
  obtain rfl := Option.some.inj hx
  rfl

end

end Sys2Proof.Machine
end

section
set_option Elab.async false -- few threads at a time: each takes its stack from the check's memory
/-! PROOFS. The operations and the happenings of one slot keep the laws of power (chapters 2 to 6). -/
namespace Sys2Proof.Machine
namespace State.KeepsPower

section
variable {r s : State}

/-- The laws of power of the state before may be used to show that they are kept. -/
theorem of_held {t : State} (h : s.PowerHeld → s.KeepsPower t) : s.KeepsPower t := fun hs => h hs hs

/-! ### Records that stand -/

theorem withPort (h : r.KeepsPower s) (p : Port) : r.KeepsPower { s with port := p } :=
  h.trans (.of_stands (fun _ => .refl _) ⟨rfl, rfl, rfl⟩ ⟨rfl, rfl, rfl, rfl⟩)

theorem markPass (h : r.KeepsPower s) : r.KeepsPower s.markPass :=
  h.trans (.of_stands (fun _ => .refl _) ⟨rfl, rfl, rfl⟩ ⟨rfl, rfl, rfl, rfl⟩)

theorem occur (h : r.KeepsPower s) (who : Option SlotId) (k : EventKind) : r.KeepsPower (s.occur who k) := by
  refine h.trans (.of_stands (fun i => ?_) ?_ ?_)
  · by_cases hi : who = some i
    · subst hi
      rw [State.slot_occur_same]
      exact .written _ _ _ _
    · rw [State.slot_occur_ne s k hi]
      exact .refl _
  · rw [State.occur_budget]
    exact ⟨rfl, rfl, rfl⟩
  · rw [State.occur_admission]
    exact ⟨rfl, rfl, rfl, rfl⟩

theorem upd (h : r.KeepsPower s) (i : SlotId) {f : Slot → Slot} (hf : (s.slot i).Stands (f (s.slot i))) :
    r.KeepsPower (s.upd i f) :=
  h.trans (.upd_stands s i hf)

/-- A change of the lines but for presence. -/
theorem updLines (h : r.KeepsPower s) (i : SlotId) {f : BayLines → BayLines}
    (hf : (f (s.slot i).lines).present.held = (s.slot i).lines.present.held) : r.KeepsPower (s.updLines i f) :=
  h.upd i ⟨fun hlaws => { hlaws with
    moduleClass := by rw [hf]; exact hlaws.moduleClass
    service := by rw [hf]; exact hlaws.service
    vacant := by rw [hf]; exact hlaws.vacant }, rfl, rfl, rfl, rfl⟩

theorem stands_windowless (sl : Slot) : sl.Stands sl.windowless :=
  ⟨fun hlaws => { hlaws with holdOff := fun hwindow => Bool.noConfusion hwindow }, rfl, rfl, rfl, rfl⟩

theorem cancelHoldOff (h : r.KeepsPower s) (i : SlotId) : r.KeepsPower (s.cancelHoldOff i) :=
  h.upd i (stands_windowless _)

/-! ### Faults and cuts (R62, R99) -/

/-- A powered slot cut to a state without power, its operation ended (R62). -/
theorem becomes_cut {b : State} {i : SlotId} {sl : Slot} (os : List Occurrence) (hslots : b.slots = s.slots)
    (hbudget : b.budget = (s.afterRelease i).budget) (hadmission : b.admission = (s.afterRelease i).admission)
    (hpower : (s.slot i).power.powered = true) (hlaws : (s.slot i).Laws → sl.Laws)
    (hoff : sl.power.powered = false ∧ sl.power ≠ .waiting ∧ sl.commitment = none) : s.KeepsPower (b.becomes i sl os) := by
  obtain ⟨hdead, hnotWaiting, hcommitment⟩ := hoff
  refine .becomes_released os hslots hbudget hadmission hlaws hcommitment ?_ ⟨fun hwaiting => ?_, hnotWaiting⟩
  · revert hdead
    cases sl.power <;> decide
  · rw [hwaiting] at hpower
    exact Bool.noConfusion hpower

theorem off_ended (sl : Slot) {st : PowerState} (hst : st.powered = false ∧ st ≠ .waiting) (outcome : OutcomeKind)
    (now : Word32) :
    ((sl.off st).ended outcome now).power.powered = false ∧ ((sl.off st).ended outcome now).power ≠ .waiting ∧
      ((sl.off st).ended outcome now).commitment = none := by
  obtain ⟨hpower, hcommitment⟩ := (sl.off st).ended_power outcome now
  rw [hpower, hcommitment]
  exact ⟨hst.1, hst.2, rfl⟩

theorem raiseFault (h : r.KeepsPower s) (i : SlotId) (kind : FaultKind) (hpower : (s.slot i).power.powered = true) :
    r.KeepsPower (s.raiseFault i kind) := by
  rw [State.raiseFault_eq_becomes]
  exact h.trans (becomes_cut _ (s.afterRelease_slots i) rfl rfl hpower (fun hlaws => hlaws.faults hpower _ _)
    (off_ended (s.slot i) (st := .faulted) (by decide) .fault s.part.uptime))

/-- A powered slot that a condition sends into a fault. -/
theorem raiseFault_if (h : r.KeepsPower s) (i : SlotId) (kind : FaultKind) (c : Prop) [Decidable c]
    (hpower : c → (s.slot i).power.powered = true) : r.KeepsPower (if c then s.raiseFault i kind else s) := by
  split
  · rename_i hc
    exact h.raiseFault i kind (hpower hc)
  · exact h

theorem endDrain (h : r.KeepsPower s) (i : SlotId) (outcome : OutcomeKind) (hpower : (s.slot i).power.powered = true) :
    r.KeepsPower (s.endDrain i outcome) := by
  rw [State.endDrain_eq_becomes]
  exact h.trans (becomes_cut _ (s.afterRelease_slots i) rfl rfl hpower (fun hlaws => (hlaws.off_idle hpower).ended _ _)
    (off_ended (s.slot i) (by decide) outcome s.part.uptime))

/-! ### The queue (R23, R64, R122) -/

theorem joinQueue (h : r.KeepsPower s) (i : SlotId) (origin : Origin) (mark : Bool) (hidle : (s.slot i).power = .idle)
    (hlock : (s.slot i).lockOp = none) : r.KeepsPower (s.joinQueue i origin mark) := by
  rw [State.joinQueue_eq_becomes]
  exact h.trans (.joins origin mark _ _ [] rfl (.refl _) hidle hlock)

/-- The checks of a power-on leave no lock operation in flight (R21). -/
theorem lockOp_of_powerOnCheck {sl : Slot} (hcheck : sl.powerOnCheck = none) : sl.lockOp = none := by
  obtain ⟨-, -, -, -, -, hfree⟩ := sl.powerOnCheck_none.1 hcheck
  refine Slot.lockOp_eq_none ?_
  rintro ⟨o, ho, hlock | hunlock⟩
  · exact (hfree o ho).1 hlock
  · exact (hfree o ho).2 hunlock

theorem autoAttempt (h : r.KeepsPower s) (i : SlotId) : r.KeepsPower (s.autoAttempt i) := by
  unfold State.autoAttempt
  dsimp only
  split
  · rename_i hstarts
    obtain ⟨hidle, -, -, hcheck⟩ := hstarts
    exact h.joinQueue i _ _ hidle (lockOp_of_powerOnCheck hcheck)
  · exact h

/-- What follows a line that may have seated the slot: the pass-due mark, or the auto-start attempt (R29, R122). -/
theorem markPass_or_autoAttempt (h : r.KeepsPower s) (i : SlotId) (c : Prop) [Decidable c] :
    r.KeepsPower (if c then s.markPass else s.autoAttempt i) := by
  split
  · exact h.markPass
  · exact h.autoAttempt i

/-- A shed victim, back in the queue or not (R80 to R83). -/
theorem shedVictim (h : r.KeepsPower s) (i : SlotId) (hpower : (s.slot i).power.powered = true) :
    r.KeepsPower (s.shedVictim i) := by
  have hdrained : r.KeepsPower ((s.endDrain i .shed).occur (some i) .shed) := (h.endDrain i .shed hpower).occur _ _
  have hslot : (((s.slot i).off .idle).ended .shed s.part.uptime).Stands
      (((s.endDrain i .shed).occur (some i) .shed).slot i) := by
    rw [State.endDrain_eq_becomes, State.occur_becomes]
    exact State.stands_becomes _ _ _ _
  have hidle := (((s.slot i).off .idle).ended_power .shed s.part.uptime).1
  have hnone : (((s.slot i).off .idle).ended .shed s.part.uptime).operation = none := by
    unfold Slot.ended
    split
    · assumption
    · rfl
  have hlock : (((s.endDrain i .shed).occur (some i) .shed).slot i).lockOp = none := by
    rw [Slot.lockOp, hslot.operation, hnone]
  unfold State.shedVictim
  dsimp only
  split
  · exact State.KeepsPower.joinQueue hdrained i _ _ (hslot.power.trans hidle) hlock
  · exact hdrained

/-! ### The stages (R56 to R59) -/

theorem endAuxRamp (h : r.KeepsPower s) (i : SlotId) (byDueEnd : Bool) (hpower : (s.slot i).power = .auxRamp) :
    r.KeepsPower (s.endAuxRamp i byDueEnd) := by
  rw [State.endAuxRamp_eq_becomes]
  exact h.trans (.becomes_record [] rfl rfl ⟨rfl, rfl, rfl, rfl⟩ (fun hlaws => hlaws.auxRamped hpower _ _) rfl
    (by rw [hpower]; rfl) ⟨by rw [hpower]; decide, PowerState.noConfusion⟩)

theorem endMainRamp (h : r.KeepsPower s) (i : SlotId) (byDueEnd : Bool) (hpower : (s.slot i).power = .mainRamp) :
    r.KeepsPower (s.endMainRamp i byDueEnd) := by
  rw [State.endMainRamp_eq_becomes]
  exact h.trans (.becomes_record [] rfl rfl ⟨rfl, rfl, rfl, rfl⟩ (fun hlaws => hlaws.mainRamped hpower _ _) rfl
    (by rw [hpower]; rfl) ⟨by rw [hpower]; decide, PowerState.noConfusion⟩)

theorem endReadyWait (h : r.KeepsPower s) (i : SlotId) (hpower : (s.slot i).power = .readyWait) :
    r.KeepsPower (s.endReadyWait i) := by
  obtain ⟨hon, hcommitment⟩ := ((s.slot i).switchedOn (s.slot i).readyRequired).ended_power .done s.part.uptime
  rw [State.endReadyWait, State.reachOn_eq_becomes]
  refine h.trans (.becomes_record _ rfl rfl ⟨rfl, rfl, rfl, rfl⟩ (fun hlaws => hlaws.switchedOn hpower _ _) hcommitment ?_
    ⟨by rw [hpower]; decide, ?_⟩)
  · rw [hon, hpower]
    rfl
  · rw [hon]
    exact PowerState.noConfusion

/-- A settled slot keeps its amount and gives its position back (R14). -/
theorem settled_holds (sl : Slot) (p : Profile) (now : Word32) :
    (sl.settled p now).power ≠ .waiting ∧ (sl.settled p now).ramps = 0 ∧ (sl.settled p now).amount = sl.amount := by
  have hamount : ∀ x : Slot, x.commitment = (sl.commitment.map fun c => ({ c with inrush := false } : Commitment)) →
      x.amount = sl.amount := by
    intro x hx
    rw [Slot.amount, Slot.amount, hx]
    cases sl.commitment <;> rfl
  unfold Slot.settled
  dsimp only
  split
  · exact ⟨PowerState.noConfusion, rfl, hamount _ rfl⟩
  · refine ⟨?_, ?_, hamount _ (Slot.ended_power _ _ _).2⟩
    · rw [(Slot.ended_power _ _ _).1]
      exact PowerState.noConfusion
    · rw [Slot.ramps, (Slot.ended_power _ _ _).1]
      rfl

theorem endSettle (h : r.KeepsPower s) (i : SlotId) (hpower : (s.slot i).power = .settle) :
    r.KeepsPower (s.endSettle i) := by
  obtain ⟨hwaiting, hramps, hamount⟩ := settled_holds (s.slot i) (s.profileOf i) s.part.uptime
  rw [State.endSettle_eq_becomes]
  refine h.trans (.becomes_of _ rfl (fun hlaws => hlaws.settled hpower _ _) (fun _ => ?_) (fun hs => ?_)
    ⟨rfl, rfl⟩ ⟨rfl, rfl, rfl⟩ ⟨by rw [hpower]; decide, hwaiting⟩)
  · rw [hamount, Nat.sub_self]
    exact ⟨rfl, Nat.le_refl _⟩
  · have hheld : (s.slot i).positionsHeld = (s.slot i).ramps := ((s.slot i).lawful_iff.2 (hs.slots i)).positionsHeld_eq
    rw [hramps, Nat.sub_zero, ← hheld]
    exact ⟨rfl, Nat.zero_le _⟩

/-! ### Lock operations (R124, R126) -/

/-- A lock operation is in flight in VACANT, IDLE or FAULTED alone, which go without one as well (R46). -/
theorem of_lockOp {sl : Slot} (h : sl.Laws) (hlock : sl.lockOp.isSome = true) :
    sl.power.allows none = true ∧ sl.power ≠ .waiting := by
  obtain ⟨o, ho, hkind⟩ := sl.lockOp_isSome_iff.1 hlock
  have hallows := h.operation
  rw [Option.mem_def.1 ho, Option.map_some] at hallows
  revert hallows
  obtain hkind | hkind := hkind <;> rw [hkind] <;> cases sl.power <;> decide

/-- A slot whose lock operation has ended, its deadline discarded, stands as lawful as it did (R126). -/
theorem laws_lockEnded {sl : Slot} (h : sl.Laws) (hlock : sl.lockOp.isSome = true) (outcome : OutcomeKind) (now : Word32) :
    ({ sl.ended outcome now with lockTimer := none } : Slot).Laws := by
  obtain ⟨hallows, -⟩ := of_lockOp h hlock
  have hended : ({ sl with operation := none, lockTimer := none } : Slot).Laws :=
    { h with operation := hallows, lockTimer := rfl }
  unfold Slot.ended
  split
  · rename_i hnone
    rw [Slot.lockOp, hnone] at hlock
    exact Bool.noConfusion hlock
  · exact { hended with }

theorem endLock (h : r.KeepsPower s) (i : SlotId) (outcome : OutcomeKind) (hlock : (s.slot i).lockOp.isSome = true) :
    r.KeepsPower (s.endLock i outcome) := by
  obtain ⟨hpower, hcommitment⟩ := (s.slot i).ended_power outcome s.part.uptime
  rw [State.endLock_eq_becomes]
  refine h.trans (of_held fun hs => .becomes_record _ rfl rfl ⟨rfl, rfl, rfl, rfl⟩
    (fun hlaws => laws_lockEnded hlaws hlock _ _) hcommitment (congrArg PowerState.inrush hpower) ?_)
  obtain ⟨-, hwaiting⟩ := of_lockOp (hs.slots i) hlock
  exact ⟨hwaiting, fun hw => hwaiting (hpower.symm.trans hw)⟩

theorem lockDone (h : r.KeepsPower s) (i : SlotId) (kind : OpKind) (hlock : (s.slot i).lockOp.isSome = true) :
    r.KeepsPower (s.lockDone i kind) := by
  unfold State.lockDone
  dsimp only
  split
  · exact (h.endLock i _ hlock).autoAttempt i
  · exact h.endLock i _ hlock

end

end State.KeepsPower
end Sys2Proof.Machine
end

section
set_option Elab.async false -- few threads at a time: each takes its stack from the check's memory
/-! PROOFS. The happenings of the sequencers, the fault monitors and the bay keep the laws of power (chapters 3, 5 and 6). -/
namespace Sys2Proof.Machine
namespace State.KeepsPower

section
variable {r s : State}

theorem finish (h : r.KeepsPower s) : r.KeepsPower s.finish := by
  refine h.trans (.of_stands (fun i => ?_) ?_ ?_)
  · rw [State.slot_finish]
    exact .refl _
  · rw [State.finish_budget]
    exact ⟨rfl, rfl, rfl⟩
  · rw [State.finish_admission]
    exact ⟨rfl, rfl, rfl, rfl⟩

/-! ### The sequencers (chapter 3) -/

theorem power_updLines (s : State) (i : SlotId) (f : BayLines → BayLines) :
    ((s.updLines i f).slot i).power = (s.slot i).power := by
  rw [State.updLines_eq_becomes, State.slot_becomes_power]
  rfl

theorem auxGoodRise (s : State) (i : SlotId) : s.KeepsPower (s.auxGoodRise i) := by
  have hline := (State.KeepsPower.refl s).updLines i (f := fun l => { l with auxGood := .take true }) rfl
  unfold State.auxGoodRise
  dsimp only
  split
  · rename_i hpower
    exact State.KeepsPower.endAuxRamp hline i _ ((power_updLines s i _).trans hpower)
  · exact hline

theorem mainGoodRise (s : State) (i : SlotId) : s.KeepsPower (s.mainGoodRise i) := by
  have hline := (State.KeepsPower.refl s).updLines i (f := fun l => { l with mainGood := .take true }) rfl
  unfold State.mainGoodRise
  dsimp only
  split
  · rename_i hpower
    exact State.KeepsPower.endMainRamp hline i _ ((power_updLines s i _).trans hpower)
  · exact hline

theorem readyRise (s : State) (i : SlotId) : s.KeepsPower (s.readyRise i) := by
  have hline := (State.KeepsPower.refl s).updLines i (f := fun l => { l with ready := .take true }) rfl
  unfold State.readyRise
  dsimp only
  split
  · rename_i hpower
    exact State.KeepsPower.endReadyWait hline i ((power_updLines s i _).trans hpower)
  · exact hline

theorem stageEnd (s : State) (i : SlotId) : s.KeepsPower (s.stageEnd i) := by
  have h := State.KeepsPower.refl s
  unfold State.stageEnd
  cases hpower : (s.slot i).power with
  | auxRamp => exact h.endAuxRamp i _ hpower
  | mainRamp => exact h.endMainRamp i _ hpower
  | settle => exact h.endSettle i hpower
  | readyWait => exact h.endReadyWait i hpower
  | vacant | idle | waiting | on | drain | faulted => exact h

theorem deadlineExpiry (s : State) (i : SlotId) : s.KeepsPower (s.deadlineExpiry i) := by
  have h := State.KeepsPower.refl s
  unfold State.deadlineExpiry
  split
  · rename_i kind hkind
    refine h.raiseFault i kind ?_
    revert hkind
    cases (s.slot i).power <;> simp [PowerState.timeoutFault, PowerState.powered]
  · exact h

theorem readyFall (s : State) (i : SlotId) : s.KeepsPower (s.readyFall i) := by
  have hline := (State.KeepsPower.refl s).updLines i (f := fun l => { l with ready := .take false }) rfl
  unfold State.readyFall
  dsimp only
  split
  · rename_i hdrain
    refine State.KeepsPower.endDrain hline i _ ?_
    rw [power_updLines, hdrain.1]
    rfl
  · exact hline

/-! ### The fault monitors (chapter 5) -/

theorem faultLineRise (s : State) (i : SlotId) : s.KeepsPower (s.faultLineRise i) :=
  raiseFault_if ((State.KeepsPower.refl s).updLines i rfl) i _ _ fun hpower => by
    rw [power_updLines]
    exact hpower

theorem dueOvercurrent (s : State) (i : SlotId) : s.KeepsPower (s.dueOvercurrent i) := by
  have hstands : (s.slot i).Stands { s.slot i with overcurrentDue := false } :=
    ⟨fun h => { h with dueMarks := fun hoff => ⟨rfl, (h.dueMarks hoff).2⟩ }, rfl, rfl, rfl, rfl⟩
  refine raiseFault_if ((State.KeepsPower.refl s).upd i hstands) i _ _ fun hpower => ?_
  rw [State.upd_eq_becomes, State.slot_becomes_power]
  exact hpower.1

theorem powered_of_rail {p : PowerState} {rail : Rail} (h : p.railUp rail = true ∨ p.railEnabled rail = true) :
    p.powered = true := by
  revert h
  cases rail <;> cases p <;> decide

theorem railFall (s : State) (i : SlotId) (rail : Rail) : s.KeepsPower (s.railFall i rail) := by
  have hline : s.KeepsPower (s.takeRailDown i rail) := by
    cases rail with
    | aux => exact (State.KeepsPower.refl s).updLines i (f := fun l => { l with auxGood := .take false }) rfl
    | main => exact (State.KeepsPower.refl s).updLines i (f := fun l => { l with mainGood := .take false }) rfl
  refine hline.raiseFault_if i _ _ fun hup => ?_
  rw [State.takeRailDown_eq_becomes, State.slot_becomes_power]
  exact powered_of_rail (.inl hup)

theorem dueRailLost (s : State) (i : SlotId) (rail : Rail) : s.KeepsPower (s.dueRailLost i rail) := by
  have hstands : (s.slot i).Stands ((s.slot i).withoutRailLost rail) := by
    cases rail with
    | aux =>
      exact ⟨fun h => { h with dueMarks := fun hoff => ⟨(h.dueMarks hoff).1, rfl, (h.dueMarks hoff).2.2⟩ }, rfl, rfl, rfl, rfl⟩
    | main =>
      exact ⟨fun h => { h with dueMarks := fun hoff => ⟨(h.dueMarks hoff).1, (h.dueMarks hoff).2.1, rfl⟩ }, rfl, rfl, rfl, rfl⟩
  refine raiseFault_if ((State.KeepsPower.refl s).upd i hstands) i _ _ fun hpower => ?_
  rw [State.upd_eq_becomes, State.slot_becomes_power, hstands.power]
  exact powered_of_rail (.inr hpower.1)

/-! ### The lever, the button and the lock (chapter 6) -/

theorem leverOpened (h : r.KeepsPower s) (i : SlotId) : r.KeepsPower (s.leverOpened i) := by
  unfold State.leverOpened
  dsimp only
  split
  · rename_i hpower
    exact h.raiseFault i _ hpower
  · split
    · rename_i hlock
      exact h.endLock i _ (by rw [hlock.2]; rfl)
    · exact h

theorem leverChange (s : State) (i : SlotId) (closed : Bool) : s.KeepsPower (s.leverChange i closed) := by
  have hline := (State.KeepsPower.refl s).updLines i (f := fun l => { l with lever := .take closed }) rfl
  unfold State.leverChange
  dsimp only
  split
  · exact hline
  · split
    · exact (hline.occur _ _).markPass_or_autoAttempt i _
    · exact (hline.leverOpened i).occur _ _

/-- A window is opened or cancelled in a slot in service whose button toggles (R117). -/
theorem togglePress (h : r.KeepsPower s) (i : SlotId) (hpolicy : (s.slot i).buttonPolicy = .toggle) :
    r.KeepsPower (s.togglePress i) := by
  by_cases hservice : (s.slot i).power.inService = true
  · rw [State.togglePress_of_in_service (fun hv => by rw [hv] at hservice; exact Bool.noConfusion hservice)
      (fun hf => by rw [hf] at hservice; exact Bool.noConfusion hservice)]
    exact h.upd i ⟨fun hlaws => { hlaws with holdOff := fun _ => ⟨hservice, hpolicy⟩ }, rfl, rfl, rfl, rfl⟩
  · unfold State.togglePress
    cases hpower : (s.slot i).power with
    | vacant | faulted => exact h
    | idle | waiting | auxRamp | mainRamp | settle | readyWait | on | drain => exact absurd (by rw [hpower]; rfl) hservice

theorem buttonPress (s : State) (i : SlotId) : s.KeepsPower (s.buttonPress i) := by
  have hline := (State.KeepsPower.refl s).updLines i (f := fun l => { l with button := .take true }) rfl
  unfold State.buttonPress
  dsimp only
  split
  · exact hline
  · split
    · exact hline.occur _ _
    · rename_i hpolicy
      refine togglePress (hline.occur _ _) i ?_
      rw [State.slot_occur_same, State.updLines_eq_becomes, State.slot_becomes_same]
      exact hpolicy

/-- A POWER-OFF that has passed its checks, on a slot whose record stands for the one it had (R64 to R69). -/
theorem powerOffAction {i : SlotId} {sl : Slot} (hslot : (s.slot i).Stands sl) (force : Bool) (origin : Origin) :
    s.KeepsPower ((s.becomes i sl []).powerOffAction i force origin).1 := by
  have hline : s.KeepsPower (s.becomes i sl []) := .becomes_stands hslot [] rfl rfl ⟨rfl, rfl, rfl, rfl⟩
  have hdrain (outcome : OutcomeKind) (hpower : sl.power.powered = true) :
      s.KeepsPower ((s.becomes i sl []).endDrain i outcome) := by
    refine State.KeepsPower.endDrain hline i outcome ?_
    rw [State.slot_becomes_power]
    exact hpower
  cases hpower : sl.power with
  | vacant | idle | faulted =>
    rw [State.powerOffAction_off_already s i [] force origin (by simp [hpower])]
    exact hline
  | waiting =>
    rw [State.powerOffAction_waiting_cancels s i [] force origin hpower]
    exact .leaves _ (hslot.power.symm.trans hpower) (fun h => (hslot.laws h).cancelled hpower _)
      ⟨rfl, PowerState.noConfusion⟩
  | auxRamp | mainRamp | settle | readyWait =>
    have haborts : (s.becomes i sl []).powerOffAction i force origin =
        ((s.becomes i sl []).endDrain i .aborted, Status.done, ((s.becomes i sl []).slot i).opTicket) := by
      simp only [State.powerOffAction, State.slot_becomes_power, hpower]
      rfl
    rw [haborts]
    exact hdrain _ (by rw [hpower]; rfl)
  | on =>
    have hold : (s.slot i).power = .on := hslot.power.symm.trans hpower
    cases force with
    | true =>
      rw [State.powerOffAction_on_cuts s i [] origin hpower hslot.commitment]
      refine becomes_cut _ (s.afterRelease_slots i) rfl rfl (by rw [hold]; rfl) (fun h => ?_)
        (off_ended (sl.starting _) (by decide) .done s.part.uptime)
      have hoff := (hslot.laws h).off_idle (by rw [hpower]; rfl)
      exact Slot.Laws.ended (sl := (sl.starting _).off .idle) { hoff with } _ _
    | false =>
      rw [State.powerOffAction_on_drains s i [] origin hpower]
      exact .becomes_record [] rfl rfl ⟨rfl, rfl, rfl, rfl⟩ (fun h => (hslot.laws h).draining hpower rfl _) hslot.commitment
        (by rw [hold]; rfl) ⟨by rw [hold]; decide, PowerState.noConfusion⟩
  | drain =>
    cases force with
    | true =>
      have hforced : ((s.becomes i sl []).powerOffAction i true origin).1 = (s.becomes i sl []).endDrain i .forced := by
        simp only [State.powerOffAction, State.slot_becomes_power, hpower]
        rfl
      rw [hforced]
      exact hdrain _ (by rw [hpower]; rfl)
    | false =>
      have hwaits : ((s.becomes i sl []).powerOffAction i false origin).1 = s.becomes i sl [] := by
        simp only [State.powerOffAction, State.slot_becomes_power, hpower]
        rfl
      rw [hwaits]
      exact hline

theorem windowExpires (s : State) (i : SlotId) : s.KeepsPower (s.windowExpires i) := by
  have hcancelled := (State.KeepsPower.refl s).cancelHoldOff i
  have hpowerOff : s.KeepsPower ((s.cancelHoldOff i).powerOffAction i false .button).1 := by
    rw [State.cancelHoldOff_eq_becomes]
    exact powerOffAction (stands_windowless _) false .button
  have hpower : ((s.cancelHoldOff i).slot i).power = (s.slot i).power := by
    rw [State.cancelHoldOff_eq_becomes, State.slot_becomes_power]
    rfl
  unfold State.windowExpires
  dsimp only
  cases hidle : (s.slot i).power with
  | idle =>
    dsimp only
    split
    · rename_i hcheck
      exact hcancelled.joinQueue i _ _ (hpower.trans hidle) (lockOp_of_powerOnCheck hcheck)
    · exact (hcancelled.upd i ⟨fun h => { h with }, rfl, rfl, rfl, rfl⟩).occur _ _
  | waiting | auxRamp | mainRamp | settle | readyWait | on => exact hpowerOff
  | drain | vacant | faulted => exact hcancelled

theorem lockSenseChange (s : State) (i : SlotId) (engaged : Bool) : s.KeepsPower (s.lockSenseChange i engaged) := by
  have hline := (State.KeepsPower.refl s).updLines i (f := fun l => { l with lockSense := .take engaged }) rfl
  unfold State.lockSenseChange
  dsimp only
  split
  · exact hline
  · split
    · rename_i kind hkind
      split
      · refine hline.lockDone i _ ?_
        rw [State.updLines_eq_becomes, State.slot_becomes_same]
        exact congrArg Option.isSome hkind
      · exact hline
    · unfold State.lockMoved
      dsimp only
      split
      · exact hline.occur _ _
      · exact (hline.occur _ _).markPass_or_autoAttempt i _

theorem dueLockEnd (s : State) (i : SlotId) : s.KeepsPower (s.dueLockEnd i) := by
  have htaken := (State.KeepsPower.refl s).upd i (f := fun sl => { sl with lockEndDue := none })
    ⟨fun h => { h with }, rfl, rfl, rfl, rfl⟩
  unfold State.dueLockEnd
  dsimp only
  split
  · rename_i kind hkind
    split
    · refine htaken.lockDone i _ ?_
      rw [State.upd_eq_becomes, State.slot_becomes_same]
      exact congrArg Option.isSome hkind
    · exact htaken
  · exact htaken

end

end State.KeepsPower
end Sys2Proof.Machine
end

section
set_option Elab.async false -- few threads at a time: each takes its stack from the check's memory
/-! PROOFS. Insertion and removal, the tick and the requests keep the laws of power (chapters 2, 6, 10 and 11). -/
namespace Sys2Proof.Machine

/-! ### Insertion and removal (R110 to R113) -/

section
variable {sl : Slot}

/-- Without a module in service a slot is VACANT or FAULTED, and a disabled one VACANT (R43, R128). -/
theorem Slot.Laws.power_of_absent (h : sl.Laws) (habsent : sl.lines.present.held = false) :
    sl.power = .vacant ∨ (sl.power = .faulted ∧ sl.hardware.enabled = true) := by
  have hservice : sl.power.inService ≠ true := fun hs => by rw [(h.service hs).2] at habsent; exact Bool.noConfusion habsent
  cases hpower : sl.power with
  | vacant => exact .inl rfl
  | faulted => exact .inr ⟨rfl, (h.faulted hpower).1⟩
  | idle | waiting | auxRamp | mainRamp | settle | readyWait | on | drain => exact absurd (by rw [hpower]; rfl) hservice

theorem Slot.Laws.vacant_of_disabled (h : sl.Laws) (hdisabled : sl.hardware.enabled = false) : sl.power = .vacant := by
  have hservice : sl.power.inService ≠ true := fun hs => by rw [(h.service hs).1] at hdisabled; exact Bool.noConfusion hdisabled
  cases hpower : sl.power with
  | vacant => rfl
  | faulted => rw [(h.faulted hpower).1] at hdisabled; exact Bool.noConfusion hdisabled
  | idle | waiting | auxRamp | mainRamp | settle | readyWait | on | drain => exact absurd (by rw [hpower]; rfl) hservice

/-- A module that comes into an enabled VACANT slot leaves it lawful in IDLE (R111, R129). -/
theorem Slot.Laws.module_arrives (h : sl.Laws) (hvacant : sl.power = .vacant) {l : BayLines} {hw : Hardware}
    (henabled : hw.enabled = true) (hpresent : l.present.held = true) (k : Fin 4) :
    ({ sl with hardware := hw, lines := l, moduleClass := some k, autoPending := true, power := .idle } : Slot).Laws := by
  have hpower : sl.power.powered = false := by rw [hvacant]; rfl
  have hwindow : sl.holdOff.isSome ≠ true := fun hw => by
    have hservice := (h.holdOff hw).1
    rw [hvacant] at hservice
    exact Bool.noConfusion hservice
  have hop : PowerState.idle.allows (sl.operation.map (·.kind)) = true := by
    have hallows := h.operation
    rw [hvacant] at hallows
    exact hallows
  exact
    { commitment := h.commitment.trans hpower
      inrush := fun c hc => (h.inrush c hc).trans (by rw [hvacant]; rfl)
      operation := hop
      moduleClass := by rw [henabled, hpresent]; rfl
      service := fun _ => ⟨henabled, hpresent⟩
      vacant := fun hidle => PowerState.noConfusion hidle
      faulted := fun hidle => PowerState.noConfusion hidle
      holdOff := fun hw => absurd hw hwindow
      stage := fun _ => h.stage (.inl hpower)
      dueMarks := fun _ => h.dueMarks hpower
      lockTimer := h.lockTimer }

/-- A removal leaves a slot VACANT and lawful, its operation as it was in IDLE (R112). -/
theorem Slot.Laws.removed_idle (h : sl.Laws) (hidle : sl.power = .idle) {l : BayLines} (habsent : l.present.held = false) :
    (({ sl with lines := l } : Slot).windowless.vacated).Laws := by
  have hpower : sl.power.powered = false := by rw [hidle]; rfl
  have hop : PowerState.vacant.allows (sl.operation.map (·.kind)) = true := by
    have hallows := h.operation
    rw [hidle] at hallows
    exact hallows
  exact
    { commitment := h.commitment.trans hpower
      inrush := fun c hc => (h.inrush c hc).trans (by rw [hidle]; rfl)
      operation := hop
      moduleClass := by
        show none.isSome = (sl.hardware.enabled && l.present.held)
        rw [habsent, Bool.and_false]
        rfl
      service := fun hs => Bool.noConfusion hs
      vacant := fun _ => .inr habsent
      faulted := fun hf => PowerState.noConfusion hf
      holdOff := fun hw => Bool.noConfusion hw
      stage := fun _ => h.stage (.inl hpower)
      dueMarks := fun _ => h.dueMarks hpower
      lockTimer := h.lockTimer }

theorem Slot.Laws.removed_waiting (h : sl.Laws) (hwaiting : sl.power = .waiting) {l : BayLines}
    (habsent : l.present.held = false) (now : Word32) :
    (({ sl with lines := l } : Slot).ended .removed now).windowless.vacated.Laws := by
  have hremoved := (h.waiting_to_idle hwaiting).removed_idle rfl habsent
  unfold Slot.ended
  split
  · rename_i hnone
    exact { hremoved with
      operation := by rw [show (({ sl with lines := l } : Slot).windowless.vacated).operation = none from hnone]; rfl
      lockTimer := by
        rw [Slot.lockOp, show (({ sl with lines := l } : Slot).windowless.vacated).operation = none from hnone]
        exact hremoved.lockTimer }
  · exact { hremoved with }

theorem Slot.Laws.removed_powered (h : sl.Laws) (hpower : sl.power.powered = true) {l : BayLines}
    (habsent : l.present.held = false) (now : Word32) :
    ((({ sl with lines := l } : Slot).off .vacant).ended .removed now).windowless.vacated.Laws := by
  have hremoved := (h.off_idle hpower).removed_idle rfl habsent
  unfold Slot.ended
  split
  · rename_i hnone
    have hnone : sl.operation = none := hnone
    exact { hremoved with
      operation := by
        show PowerState.vacant.allows (sl.operation.map (·.kind)) = true
        rw [hnone]
        rfl
      lockTimer := by
        show sl.lockTimer.isSome = sl.lockOp.isSome
        rw [Slot.lockOp, hnone]
        exact hremoved.lockTimer }
  · exact { hremoved with }

theorem Slot.faulted_with_lines (sl : Slot) (l : BayLines) (kind : FaultKind) (now : Word32) :
    ({ sl with lines := l } : Slot).faulted kind now = { sl.faulted kind now with lines := l } := by
  cases ho : sl.operation <;> simp only [Slot.faulted, Slot.ended, Slot.off, ho]

/-- The class of a slot that keeps its state follows the presence of its module (R110). -/
theorem Slot.Laws.withModule (h : sl.Laws) (hservice : sl.power.inService = false) {l : BayLines} {k : Option (Fin 4)}
    (hclass : k.isSome = (sl.hardware.enabled && l.present.held))
    (hvacant : sl.power = .vacant → sl.hardware.enabled = false ∨ l.present.held = false) (p : Bool) :
    ({ sl with lines := l, moduleClass := k, autoPending := p } : Slot).Laws :=
  { h with
    moduleClass := hclass
    service := fun hs => absurd (hs.symm.trans hservice) (by decide)
    vacant := hvacant }

end

namespace State.KeepsPower

/-- A VACANT or FAULTED slot changes its lines and its class (R110, R112, R128). -/
theorem becomes_withModule {s : State} {i : SlotId} (os : List Occurrence) {l : BayLines} {k : Option (Fin 4)} {p : Bool}
    (hpower : (s.slot i).power = .vacant ∨ (s.slot i).power = .faulted)
    (hclass : k.isSome = ((s.slot i).hardware.enabled && l.present.held))
    (hvacant : (s.slot i).power = .vacant → (s.slot i).hardware.enabled = false ∨ l.present.held = false) :
    s.KeepsPower (s.becomes i { s.slot i with lines := l, moduleClass := k, autoPending := p } os) := by
  have hservice : (s.slot i).power.inService = false ∧ (s.slot i).power ≠ .waiting := by
    obtain hpower | hpower := hpower <;> rw [hpower] <;> decide
  exact .becomes_record os rfl rfl ⟨rfl, rfl, rfl, rfl⟩ (fun h => h.withModule hservice.1 hclass hvacant p) rfl rfl
    ⟨hservice.2, hservice.2⟩

theorem becomesOrStarts {r b : State} {i : SlotId} {sl : Slot} {os : List Occurrence} (h : r.KeepsPower (b.becomes i sl os))
    (hp : sl.priority = (b.slot i).priority) : r.KeepsPower (b.becomesOrStarts i sl os) := by
  rw [← State.autoAttempt_becomes b i sl os hp]
  exact h.autoAttempt i

theorem insertion (s : State) (hs : s.PowerHeld) (i : SlotId) (class0 class1 : Bool) :
    ∃ t, exec (.insertion i class0 class1) s = .next t ∧ s.KeepsPower t := by
  cases hpresent : (s.slot i).lines.present.held with
  | true => exact ⟨s, State.happen_of_not _ (by rw [hpresent]; rfl), .refl s⟩
  | false =>
    obtain ⟨hvacates, hfaults, hdisables⟩ := Machine.insertion s i class0 class1 hpresent
    have hlaws := hs.slots i
    cases henabled : (s.slot i).hardware.enabled with
    | false =>
      refine ⟨_, hdisables henabled, State.KeepsPower.finish ?_⟩
      exact becomes_withModule _ (.inl (hlaws.vacant_of_disabled henabled)) (by rw [hlaws.moduleClass, henabled]; rfl)
        fun _ => .inl henabled
    | true =>
      obtain hvacant | ⟨hfaulted, -⟩ := hlaws.power_of_absent hpresent
      · refine ⟨_, hvacates henabled hvacant, State.KeepsPower.finish ?_⟩
        exact becomesOrStarts (.becomes_record _ rfl rfl ⟨rfl, rfl, rfl, rfl⟩
          (fun h => h.module_arrives hvacant henabled rfl _) rfl (by rw [hvacant]; rfl)
          ⟨by rw [hvacant]; decide, PowerState.noConfusion⟩) rfl
      · exact ⟨_, hfaults henabled hfaulted, State.KeepsPower.finish (becomes_withModule _ (.inr hfaulted)
          (by rw [henabled]; rfl) fun hv => absurd (hv.symm.trans hfaulted) (by decide))⟩

theorem removal (s : State) (hs : s.PowerHeld) (i : SlotId) :
    ∃ t, exec (.removal i) s = .next t ∧ s.KeepsPower t := by
  cases hpresent : (s.slot i).lines.present.held with
  | false => exact ⟨s, State.happen_of_not _ hpresent, .refl s⟩
  | true =>
    obtain ⟨hidles, hwaits, hfaults, hlives, htolerates, hdisables⟩ := Machine.removal s i hpresent
    have hlaws := hs.slots i
    cases henabled : (s.slot i).hardware.enabled with
    | false =>
      refine ⟨_, hdisables henabled, State.KeepsPower.finish ?_⟩
      exact becomes_withModule _ (.inl (hlaws.vacant_of_disabled henabled)) (by rw [hlaws.moduleClass, henabled]; rfl)
        fun _ => .inl henabled
    | true =>
      cases hpowered : (s.slot i).power.powered with
      | true =>
        cases htolerant : (s.slot i).hardware.surpriseTolerant with
        | true =>
          exact ⟨_, htolerates henabled hpowered htolerant, State.KeepsPower.finish (becomes_cut _ (s.afterRelease_slots i) rfl
            rfl hpowered (fun h => h.removed_powered hpowered rfl _)
            ⟨rfl, PowerState.noConfusion, (off_ended _ (st := .vacant) (by decide) .removed _).2.2⟩)⟩
        | false =>
          refine ⟨_, hlives henabled hpowered htolerant, State.KeepsPower.finish (becomes_cut _ (s.afterRelease_slots i) rfl rfl
            hpowered (fun h => ?_) (off_ended _ (st := .faulted) (by decide) .fault _))⟩
          rw [Slot.faulted_with_lines]
          have hfaulted := h.faults hpowered .removedLive s.part.uptime
          have hstate : ((s.slot i).faulted .removedLive s.part.uptime).power = .faulted :=
            (((s.slot i).off .faulted).ended_power .fault s.part.uptime).1
          refine hfaulted.withModule (by rw [hstate]; rfl) ?_ (fun hv => absurd (hv.symm.trans hstate) (by decide)) _
          exact (Bool.and_false _).symm
      | false =>
      cases hpower : (s.slot i).power with
      | vacant =>
        obtain hdisabled | habsent := hlaws.vacant hpower
        · exact Bool.noConfusion (hdisabled.symm.trans henabled)
        · exact Bool.noConfusion (habsent.symm.trans hpresent)
      | idle =>
        exact ⟨_, hidles henabled hpower, State.KeepsPower.finish (.becomes_record _ rfl rfl ⟨rfl, rfl, rfl, rfl⟩
          (fun h => h.removed_idle hpower (l := { (s.slot i).lines with present := ⟨false, false, 0⟩ }) rfl) rfl (by rw [hpower]; rfl)
          ⟨by rw [hpower]; decide, PowerState.noConfusion⟩)⟩
      | faulted =>
        exact ⟨_, hfaults henabled hpower, State.KeepsPower.finish (becomes_withModule _ (.inr hpower)
          (by rw [henabled]; rfl) fun _ => .inr rfl)⟩
      | waiting =>
        exact ⟨_, hwaits henabled hpower, State.KeepsPower.finish (.leaves _ hpower
          (fun h => h.removed_waiting hpower rfl _) ⟨rfl, PowerState.noConfusion⟩)⟩
      | auxRamp | mainRamp | settle | readyWait | on | drain =>
        rw [hpower] at hpowered
        exact Bool.noConfusion hpowered

end State.KeepsPower
end Sys2Proof.Machine
end

section
set_option Elab.async false -- few threads at a time: each takes its stack from the check's memory
/-! PROOFS. The tick, the blink patterns and the requests keep the laws of power (chapters 7 and 10). -/
namespace Sys2Proof.Machine
namespace State.KeepsPower

section
variable {r s : State}

/-! ### The tick and the blink patterns (R132, R181) -/

theorem present_drivePin (i : SlotId) (p : Pin) (v : Bool) (l : BayLines) :
    (l.drivePin i p v).present.held = l.present.held := by
  cases p with
  | supplyGood | restart | rateA | rateB => rfl
  | present | class0 | class1 | lever | button | lockSense | auxGood | mainGood | ready | fault =>
    dsimp only [BayLines.drivePin]
    split <;> rfl

theorem drivePin (h : r.KeepsPower s) (p : Pin) (v : Bool) : r.KeepsPower (s.drivePin p v) := by
  cases p with
  | supplyGood n =>
    refine h.trans (.of_stands (fun _ => .refl _) ⟨rfl, rfl, ceilingFor_congr (fun k => ?_) _ _⟩ ⟨rfl, rfl, rfl, rfl⟩)
    show ((s.budget.supplies.set n.val { s.budget.supplies.get n with line := (s.budget.supplies.get n).line.drive v }
      n.isLt).get k).share = _
    rw [Vector.get_set_supply]
    split
    · next hk => rw [hk]; rfl
    · rfl
  | restart | rateA | rateB => exact h.trans (.of_stands (fun _ => .refl _) ⟨rfl, rfl, rfl⟩ ⟨rfl, rfl, rfl, rfl⟩)
  | present i | class0 i | class1 i | lever i | button i | lockSense i | auxGood i | mainGood i | ready i | fault i =>
    exact h.updLines i (present_drivePin i _ v _)

theorem driveWires (h : r.KeepsPower s) : r.KeepsPower s.driveWires := by
  have hpins (pins : List (Pin × Bool)) : ∀ {t : State}, r.KeepsPower t →
      r.KeepsPower (pins.foldl (fun s c => s.drivePin c.1 c.2) t) := by
    induction pins with
    | nil => exact id
    | cons c rest ih => exact fun ht => ih (ht.drivePin c.1 c.2)
  unfold State.driveWires
  split
  · exact h
  · exact hpins _ (h.trans (.of_stands (fun _ => .refl _) ⟨rfl, rfl, rfl⟩ ⟨rfl, rfl, rfl, rfl⟩))

/-- A tick leaves open what is open and stopped what is stopped. -/
theorem stands_tick (sl : Slot) : sl.Stands sl.tick := by
  have hopen (t : Option Nat) : (countDown t).isSome = t.isSome := Option.isSome_map
  refine ⟨fun h => { h with holdOff := fun hw => h.holdOff ((hopen _).symm.trans hw), stage := fun hoff => ?_,
                            lockTimer := (hopen _).trans h.lockTimer }, rfl, rfl, rfl, rfl⟩
  obtain ⟨hstage, hend⟩ := h.stage hoff
  exact ⟨congrArg countDown hstage, hend⟩

theorem tick (h : r.KeepsPower s) : r.KeepsPower s.tick := by
  refine h.driveWires.trans (.of_stands (fun i => ?_) ⟨rfl, rfl, ceilingFor_congr (fun n => ?_) _ _⟩ ⟨rfl, rfl, rfl, rfl⟩)
  · rw [State.slot_tick]
    exact stands_tick _
  · show ((s.driveWires.budget.supplies.map fun p => ({ p with line := p.line.sample } : Supply)).get n).share = _
    rw [Vector.get_map_supply]
    rfl

theorem changePattern (s : State) (p : Pattern) (b : BlinkPattern) : s.KeepsPower (s.changePattern p b) := by
  refine .of_stands (fun i => ?_) ?_ ?_
  · have hslot : (s.changePattern p b).slot i =
        (s.slot i).driven (s.setPattern p b).slow.lit (s.setPattern p b).fast.lit := by
      cases p <;> exact State.slot_of_map rfl i
    rw [hslot]
    exact .written _ _ _ _
  · cases p <;> exact ⟨rfl, rfl, rfl⟩
  · cases p <;> exact ⟨rfl, rfl, rfl, rfl⟩

/-! ### The requests that power does not depend on (chapter 10) -/

/-- Another block changes; the records, the budget and the admission unit stay. -/
theorem of_frame {t : State} (h : r.KeepsPower s) (hslots : t.slots = s.slots) (hbudget : t.budget = s.budget)
    (hadmission : t.admission = s.admission) : r.KeepsPower t := by
  refine h.trans (.of_stands (fun i => ?_) ?_ ?_)
  · rw [State.slot_eq_of_slots hslots]
    exact .refl _
  · rw [hbudget]
    exact ⟨rfl, rfl, rfl⟩
  · rw [hadmission]
    exact ⟨rfl, rfl, rfl, rfl⟩

theorem setPending (h : r.KeepsPower s) (who : Option SlotId) (set : Word16) : r.KeepsPower (s.setPending who set) := by
  cases who with
  | none => exact h.of_frame rfl rfl rfl
  | some i =>
    exact h.upd i (f := fun sl => { sl with pendingSet := set }) ⟨fun hlaws => { hlaws with }, rfl, rfl, rfl, rfl⟩

theorem identifyRequest_fst (s : State) (payload : List Byte) : s.KeepsPower (identifyRequest payload s).1 := by
  unfold identifyRequest
  split <;> exact .refl s

theorem grantRequest_fst (s : State) (payload : List Byte) : s.KeepsPower (grantRequest payload s).1 := by
  unfold grantRequest
  split
  · exact (State.KeepsPower.refl s).withPort _
  · exact .refl s

theorem readLinkRequest_fst (s : State) (payload : List Byte) : s.KeepsPower (readLinkRequest payload s).1 := by
  unfold readLinkRequest
  split
  · split
    · exact .refl s
    · dsimp only
      split
      · exact (State.KeepsPower.refl s).withPort _
      · exact .refl s
  · exact .refl s

theorem setNoticesRequest_fst (s : State) (payload : List Byte) : s.KeepsPower (setNoticesRequest payload s).1 := by
  unfold setNoticesRequest
  split
  · dsimp only
    split
    · exact (State.KeepsPower.refl s).of_frame rfl rfl rfl
    · exact .refl s
  · exact .refl s

theorem readSlotRequest_fst (s : State) (payload : List Byte) : s.KeepsPower (readSlotRequest payload s).1 := by
  unfold readSlotRequest
  split
  · split <;> exact .refl s
  · exact .refl s

theorem readQueueRequest_fst (s : State) (payload : List Byte) : s.KeepsPower (readQueueRequest payload s).1 := by
  unfold readQueueRequest
  split <;> exact .refl s

theorem readBudgetRequest_fst (s : State) (payload : List Byte) : s.KeepsPower (readBudgetRequest payload s).1 := by
  unfold readBudgetRequest
  split <;> exact .refl s

theorem readEventsRequest_fst (s : State) (payload : List Byte) : s.KeepsPower (readEventsRequest payload s).1 := by
  unfold readEventsRequest
  split
  · split
    · exact (State.KeepsPower.refl s).of_frame rfl rfl rfl
    · split
      · exact .refl s
      · split <;> exact .refl s
  · exact .refl s

theorem ackEventsRequest_fst (s : State) (payload : List Byte) : s.KeepsPower (ackEventsRequest payload s).1 := by
  unfold ackEventsRequest
  split
  · split
    · exact .refl s
    · dsimp only
      split
      · exact State.KeepsPower.of_frame ((State.KeepsPower.refl s).setPending _ _) rfl rfl rfl
      · exact .refl s
  · exact .refl s

theorem readProfileRequest_fst (s : State) (payload : List Byte) : s.KeepsPower (readProfileRequest payload s).1 := by
  unfold readProfileRequest
  split
  · split <;> exact .refl s
  · exact .refl s

theorem setIndicatorRequest_fst (s : State) (payload : List Byte) : s.KeepsPower (setIndicatorRequest payload s).1 := by
  unfold setIndicatorRequest
  split
  · split
    · exact .refl s
    · split
      · exact .refl s
      · rename_i lamps _
        exact (State.KeepsPower.refl s).upd _ (f := fun sl => { sl with lamps := lamps })
          ⟨fun hlaws => { hlaws with }, rfl, rfl, rfl, rfl⟩
  · exact .refl s

theorem setProfileRequest_fst (s : State) (payload : List Byte) : s.KeepsPower (setProfileRequest payload s).1 := by
  unfold setProfileRequest
  split
  · split
    · exact (State.KeepsPower.refl s).of_frame rfl rfl rfl
    · exact .refl s
  · exact .refl s

theorem setClassesRequest_fst (s : State) (payload : List Byte) : s.KeepsPower (setClassesRequest payload s).1 := by
  unfold setClassesRequest
  split
  · dsimp only
    split
    · exact .of_stands (fun _ => .refl _) ⟨rfl, rfl, rfl⟩ ⟨rfl, rfl, rfl, rfl⟩
    · exact .refl s
  · exact .refl s

theorem setBlinkRequest_fst (s : State) (payload : List Byte) : s.KeepsPower (setBlinkRequest payload s).1 := by
  unfold setBlinkRequest
  split
  · dsimp only
    split
    · rename_i p _ _ _ _ _
      cases p <;> exact (State.KeepsPower.refl s).of_frame rfl rfl rfl
    · exact .refl s
  · exact .refl s

theorem gateRequest_fst (s : State) (payload : List Byte) : s.KeepsPower (gateRequest payload s).1 := by
  unfold gateRequest
  split
  · split
    · exact .refl s
    · split
      · exact .refl s
      · dsimp only
        split <;> exact .of_stands (fun _ => .refl _) ⟨rfl, rfl, rfl⟩ ⟨rfl, rfl, rfl, rfl⟩
  · exact .refl s

theorem freezeRequest_fst (s : State) (payload : List Byte) : s.KeepsPower (freezeRequest payload s).1 := by
  unfold freezeRequest
  split
  · split
    · exact .refl s
    · exact (State.KeepsPower.refl s).of_frame rfl rfl rfl
  · exact .refl s

theorem restartRequest_fst (s : State) (payload : List Byte) : s.KeepsPower (restartRequest payload s).1 := by
  unfold restartRequest
  split
  · split
    · exact .refl s
    · exact (State.KeepsPower.refl s).of_frame rfl rfl rfl
  · exact .refl s

/-! ### The requests about one slot (chapters 2, 3, 5 and 6) -/

theorem powerOnPassed_fst (h : r.KeepsPower s) (i : SlotId) (hcheck : (s.slot i).powerOnCheck = none) :
    r.KeepsPower (s.powerOnPassed i).1 := by
  unfold State.powerOnPassed
  dsimp only
  cases hpower : (s.slot i).power with
  | idle => exact h.joinQueue i _ _ hpower (lockOp_of_powerOnCheck hcheck)
  | waiting | auxRamp | mainRamp | settle | readyWait | on | drain | vacant | faulted => exact h

theorem powerOnRequest_fst (s : State) (payload : List Byte) : s.KeepsPower (powerOnRequest payload s).1 := by
  have h := State.KeepsPower.refl s
  unfold powerOnRequest
  split
  · split
    · exact h
    · dsimp only
      split
      · exact h.cancelHoldOff _
      · rename_i hcheck
        exact (h.cancelHoldOff _).powerOnPassed_fst _ hcheck
  · exact h

theorem powerOffRequest_fst (s : State) (payload : List Byte) : s.KeepsPower (powerOffRequest payload s).1 := by
  have h := State.KeepsPower.refl s
  unfold powerOffRequest
  split
  · split
    · exact h
    · dsimp only
      split
      · exact h.cancelHoldOff _
      · rw [State.cancelHoldOff_eq_becomes]
        exact powerOffAction (stands_windowless _) _ _
  · exact h

/-- A cleared fault leaves a slot lawful, IDLE with its module and VACANT without (R103). -/
theorem laws_clearedFault {sl : Slot} (h : sl.Laws) (hfaulted : sl.power = .faulted) (clearCount : Bool) :
    (sl.clearedFault clearCount).Laws := by
  have hpower : sl.power.powered = false := by rw [hfaulted]; rfl
  have hservice : sl.power.inService = false := by rw [hfaulted]; rfl
  have hcleared : sl.clearedFault clearCount =
      { sl with
        power := if sl.lines.present.held then .idle else .vacant
        faultCount := if clearCount then 0 else sl.faultCount } := by
    rw [Slot.clearedFault, if_pos hfaulted]
  have hop : PowerState.idle.allows (sl.operation.map (·.kind)) = true := by
    have hallows := h.operation
    rw [hfaulted] at hallows
    revert hallows
    cases sl.operation.map (·.kind) with
    | none => decide
    | some k => cases k <;> decide
  have hwindow : sl.holdOff.isSome ≠ true := fun hw => Bool.noConfusion (hservice.symm.trans (h.holdOff hw).1)
  have hinrush : ∀ c ∈ sl.commitment, c.inrush = false := fun c hc => (h.inrush c hc).trans (by rw [hfaulted]; rfl)
  rw [hcleared]
  cases hpresent : sl.lines.present.held with
  | true =>
    exact
      { commitment := h.commitment.trans hpower, inrush := hinrush, operation := hop, moduleClass := h.moduleClass
        service := fun _ => ⟨(h.faulted hfaulted).1, hpresent⟩
        vacant := fun hv => PowerState.noConfusion hv
        faulted := fun hf => PowerState.noConfusion hf
        holdOff := fun hw => absurd hw hwindow
        stage := fun _ => h.stage (.inl hpower), dueMarks := fun _ => h.dueMarks hpower, lockTimer := h.lockTimer }
  | false =>
    exact
      { commitment := h.commitment.trans hpower, inrush := hinrush, operation := hop, moduleClass := h.moduleClass
        service := fun hs => Bool.noConfusion hs
        vacant := fun _ => .inr hpresent
        faulted := fun hf => PowerState.noConfusion hf
        holdOff := fun hw => absurd hw hwindow
        stage := fun _ => h.stage (.inl hpower), dueMarks := fun _ => h.dueMarks hpower, lockTimer := h.lockTimer }

theorem clearedFault (s : State) (i : SlotId) (clearCount : Bool) :
    s.KeepsPower (s.upd i fun sl => sl.clearedFault clearCount) := by
  by_cases hfaulted : (s.slot i).power = .faulted
  · rw [State.upd_eq_becomes]
    have hstate : ((s.slot i).clearedFault clearCount).power = .idle ∨ ((s.slot i).clearedFault clearCount).power = .vacant := by
      rw [Slot.clearedFault, if_pos hfaulted]
      cases (s.slot i).lines.present.held
      · exact .inr rfl
      · exact .inl rfl
    refine .becomes_record [] rfl rfl ⟨rfl, rfl, rfl, rfl⟩ (fun h => laws_clearedFault h hfaulted clearCount) rfl ?_ ?_
    · obtain hstate | hstate := hstate <;> rw [hstate, hfaulted] <;> rfl
    · obtain hstate | hstate := hstate <;> rw [hstate, hfaulted] <;> decide
  · have hpower : ((s.slot i).clearedFault clearCount).power = (s.slot i).power := by
      rw [Slot.clearedFault, if_neg hfaulted]
    refine .upd_stands s i ⟨fun h => ?_, rfl, hpower, rfl, rfl⟩
    rw [Slot.clearedFault, if_neg hfaulted]
    exact { h with }

theorem clearFaultRequest_fst (s : State) (payload : List Byte) : s.KeepsPower (clearFaultRequest payload s).1 := by
  unfold clearFaultRequest
  split
  · split
    · exact .refl s
    · split
      · exact .refl s
      · exact clearedFault s _ _
  · exact .refl s

/-- A lock operation starts lawfully where its checks pass (R124). -/
theorem laws_locking {sl : Slot} (h : sl.Laws) {kind : OpKind} (hkind : kind.isLock = true)
    (hstate : lockState kind sl.power = true) (ticket : Nat) (now : Word32) : (sl.locking kind ticket now).Laws := by
  have hop : sl.power.allows (some kind) = true := by
    revert hstate hkind
    cases sl.power <;> cases kind <;> decide
  exact { h with
    operation := hop
    lockTimer := by
      show true = (if kind.isLock then some kind else none).isSome
      rw [if_pos hkind]
      rfl }

theorem startLock (s : State) (i : SlotId) {kind : OpKind} (hkind : kind.isLock = true)
    (hstate : lockState kind (s.slot i).power = true) : s.KeepsPower (s.startLock i kind) := by
  have hwaiting : (s.slot i).power ≠ .waiting := by
    intro hw
    rw [hw] at hstate
    cases kind <;> exact absurd hstate (by decide)
  rw [State.startLock_eq_becomes s i hkind]
  exact .becomes_record [] rfl rfl ⟨rfl, rfl, rfl, rfl⟩ (fun h => laws_locking h hkind hstate _ _) rfl rfl ⟨hwaiting, hwaiting⟩

theorem lockState_of_lockCheck {sl : Slot} {kind : OpKind} (hcheck : sl.lockCheck kind = none) :
    lockState kind sl.power = true := by
  unfold Slot.lockCheck at hcheck
  split_ifs at hcheck with _ _ hstate _
  exact Bool.eq_true_of_not_eq_false hstate

theorem lockRequest_fst (s : State) {kind : OpKind} (hkind : kind.isLock = true) (payload : List Byte) :
    s.KeepsPower (lockRequest kind payload s).1 := by
  unfold lockRequest
  split
  · split
    · exact .refl s
    · split
      · exact .refl s
      · rename_i hcheck
        exact startLock s _ hkind (lockState_of_lockCheck hcheck)
  · exact .refl s

/-! ### SET-HARDWARE (R127 to R129) -/

theorem emptyEvents (h : r.KeepsPower s) (i : SlotId) : r.KeepsPower (s.emptyEvents i) :=
  State.KeepsPower.of_frame (h.setPending (some i) 0) rfl rfl rfl

/-- A slot without power is lawful when disabled, VACANT without class and window (R128). -/
theorem laws_disabled {sl : Slot} (h : sl.Laws) (hstate : sl.power = .vacant ∨ sl.power = .idle ∨ sl.power = .faulted)
    {hw : Hardware} (hoff : hw.enabled = false) :
    ({ sl with hardware := hw, holdOff := none, power := .vacant, moduleClass := none, autoPending := false } : Slot).Laws := by
  have hpower : sl.power.powered = false := by obtain hs | hs | hs := hstate <;> rw [hs] <;> rfl
  have hinrush : sl.power.inrush = false := by obtain hs | hs | hs := hstate <;> rw [hs] <;> rfl
  have hop : PowerState.vacant.allows (sl.operation.map (·.kind)) = true := by
    have hallows := h.operation
    revert hallows
    obtain hs | hs | hs := hstate <;> rw [hs]
    · exact id
    · exact id
    · cases sl.operation.map (·.kind) with
      | none => decide
      | some k => cases k <;> decide
  exact
    { commitment := h.commitment.trans hpower
      inrush := fun c hc => (h.inrush c hc).trans hinrush
      operation := hop
      moduleClass := by
        show false = (hw.enabled && sl.lines.present.held)
        rw [hoff]
        rfl
      service := fun hs => Bool.noConfusion hs
      vacant := fun _ => .inl hoff
      faulted := fun hf => PowerState.noConfusion hf
      holdOff := fun hw => Bool.noConfusion hw
      stage := fun _ => h.stage (.inl hpower)
      dueMarks := fun _ => h.dueMarks hpower
      lockTimer := h.lockTimer }

theorem disables (s : State) (i : SlotId)
    (hstate : (s.slot i).power = .vacant ∨ (s.slot i).power = .idle ∨ (s.slot i).power = .faulted) {hw : Hardware}
    (hoff : hw.enabled = false) : s.KeepsPower ((s.becomes i { s.slot i with hardware := hw } []).disable i) := by
  have hvacates : (s.becomes i { s.slot i with hardware := hw } []).upd i
      (fun sl => { sl with holdOff := none, power := .vacant, moduleClass := none, autoPending := false }) =
      s.becomes i { s.slot i with
        hardware := hw, holdOff := none, power := .vacant, moduleClass := none, autoPending := false } [] :=
    State.upd_becomes s i { s.slot i with hardware := hw } _ [] _ (fun _ _ _ => rfl) rfl
  have hwaiting : (s.slot i).power ≠ .waiting := by obtain hs | hs | hs := hstate <;> rw [hs] <;> decide
  have hemptied : s.KeepsPower (((s.becomes i { s.slot i with hardware := hw } []).upd i
      fun sl => { sl with holdOff := none, power := .vacant, moduleClass := none, autoPending := false }).emptyEvents i) := by
    rw [hvacates]
    refine emptyEvents (.becomes_record [] rfl rfl ⟨rfl, rfl, rfl, rfl⟩ (fun h => laws_disabled h hstate hoff) rfl ?_
      ⟨hwaiting, PowerState.noConfusion⟩) i
    obtain hs | hs | hs := hstate <;> rw [hs] <;> rfl
  unfold State.disable
  dsimp only
  split
  · rename_i hlock
    exact hemptied.endLock i _ hlock
  · exact hemptied

theorem withHardware (s : State) (i : SlotId)
    (hstate : (s.slot i).power = .vacant ∨ (s.slot i).power = .idle ∨ (s.slot i).power = .faulted) (hw : Hardware) :
    s.KeepsPower (s.withHardware i hw) := by
  have hwaiting : (s.slot i).power ≠ .waiting := by obtain hs | hs | hs := hstate <;> rw [hs] <;> decide
  cases hwas : (s.slot i).hardware.enabled with
  | true =>
    cases hnow : hw.enabled with
    | true =>
      rw [State.withHardware_kept (hnow.trans hwas.symm)]
      refine .becomes_record [] rfl rfl ⟨rfl, rfl, rfl, rfl⟩ (fun h => ?_) rfl rfl ⟨hwaiting, hwaiting⟩
      exact { h with
        moduleClass := by rw [hnow, ← hwas]; exact h.moduleClass
        service := fun hs => ⟨hnow, (h.service hs).2⟩
        vacant := fun hv => (h.vacant hv).imp (fun hoff => absurd (hwas.symm.trans hoff) (by decide)) id
        faulted := fun hf => ⟨hnow, (h.faulted hf).2⟩ }
    | false =>
      rw [State.withHardware_disables hwas hnow]
      exact disables s i hstate hnow
  | false =>
    refine of_held fun hs => ?_
    have hlaws := hs.slots i
    have hvacant := hlaws.vacant_of_disabled hwas
    have hclass : (s.slot i).moduleClass.isSome = false := by rw [hlaws.moduleClass, hwas]; rfl
    cases hnow : hw.enabled with
    | false =>
      rw [State.withHardware_kept (hnow.trans hwas.symm)]
      refine .becomes_record [] rfl rfl ⟨rfl, rfl, rfl, rfl⟩ (fun h => ?_) rfl rfl ⟨hwaiting, hwaiting⟩
      exact { h with
        moduleClass := by rw [hnow]; exact hclass
        service := fun hs => absurd hs (by rw [show ({ s.slot i with hardware := hw } : Slot).power = _ from hvacant]; decide)
        vacant := fun _ => .inl hnow
        faulted := fun hf => absurd (hvacant.symm.trans hf) (by decide) }
    | true =>
      rw [State.withHardware_enables hwas hnow]
      split
      · rename_i hpresent
        exact becomesOrStarts (.becomes_record _ rfl rfl ⟨rfl, rfl, rfl, rfl⟩
          (fun h => h.module_arrives hvacant hnow hpresent _) rfl (by rw [hvacant]; rfl) ⟨hwaiting, PowerState.noConfusion⟩) rfl
      · rename_i habsent
        refine .becomes_record [] rfl rfl ⟨rfl, rfl, rfl, rfl⟩ (fun h => ?_) rfl rfl ⟨hwaiting, hwaiting⟩
        exact { h with
          moduleClass := by rw [hnow, Bool.eq_false_iff.2 habsent]; exact hclass
          service := fun hs => absurd hs (by rw [show ({ s.slot i with hardware := hw } : Slot).power = _ from hvacant]; decide)
          vacant := fun _ => .inr (Bool.eq_false_iff.2 habsent)
          faulted := fun hf => absurd (hvacant.symm.trans hf) (by decide) }

theorem power_of_hardwareCheck {sl : Slot} {frozen : Bool} {hw : Hardware} (hcheck : sl.hardwareCheck frozen hw = none) :
    sl.power = .vacant ∨ sl.power = .idle ∨ sl.power = .faulted := by
  unfold Slot.hardwareCheck at hcheck
  split_ifs at hcheck with _ hbusy _
  tauto

theorem setHardwareRequest_fst (s : State) (payload : List Byte) : s.KeepsPower (setHardwareRequest payload s).1 := by
  unfold setHardwareRequest
  split
  · split
    · exact .refl s
    · split
      · exact .refl s
      · dsimp only
        split
        · exact .refl s
        · rename_i i _ _ hw _ _ hcheck
          have hwritten := withHardware s i (power_of_hardwareCheck hcheck) hw
          unfold State.withHardware at hwritten
          rw [State.upd_eq_becomes]
          exact hwritten
  · exact .refl s

/-! ### SET-SLOT (R27, R180) -/

theorem laws_withSettings {sl : Slot} (h : sl.Laws) (t : SlotSettings) : (sl.withSettings t).Laws := by
  refine { h with holdOff := fun hw => ?_ }
  have hwindow : (if sl.buttonPolicy = .toggle ∧ t.buttonPolicy = .eventOnly then none else sl.holdOff).isSome = true := hw
  split at hwindow
  · exact Bool.noConfusion hwindow
  · rename_i hstays
    obtain ⟨hservice, htoggle⟩ := h.holdOff hwindow
    refine ⟨hservice, ?_⟩
    show t.buttonPolicy = .toggle
    cases hpolicy : t.buttonPolicy with
    | toggle => rfl
    | eventOnly => exact absurd ⟨htoggle, hpolicy⟩ hstays

/-- A WAITING slot's entry moves to the tail of its new priority group (R27). -/
theorem moves (s : State) (i : SlotId) (t : SlotSettings) (hwaiting : (s.slot i).power = .waiting) :
    s.KeepsPower ((s.upd i fun sl => sl.withSettings t).moveEntry i t.priority) := by
  refine of_held fun hs => ?_
  obtain ⟨-, hwaits, hentries, -, -, -⟩ := hs.queue
  obtain ⟨e, hfind, hslot⟩ : ∃ e, s.admission.queue.find? (fun x => decide (x.slot = i)) = some e ∧ e.slot = i := by
    obtain ⟨x, hx, hxi⟩ := (hwaits i).1 hwaiting
    obtain ⟨e, he⟩ := Option.isSome_iff_exists.1 
      (List.find?_isSome (p := fun x : QueueEntry => decide (x.slot = i)) |>.2 ⟨x, hx, decide_eq_true hxi⟩)
    exact ⟨e, he, of_decide_eq_true (List.find?_some (p := fun x : QueueEntry => decide (x.slot = i)) he)⟩
  have hmem : e ∈ s.admission.queue := List.mem_of_find?_eq_some hfind
  subst hslot
  rw [State.upd_eq_becomes, State.moveEntry_becomes, State.moveEntry_of_find t.priority hfind]
  have hwritten := (s.withEntryMoved e t.priority).stands_becomes e.slot ((s.slot e.slot).withSettings t) []
  have hothers (j : SlotId) (hj : j ≠ e.slot) :
      ((s.withEntryMoved e t.priority).becomes e.slot ((s.slot e.slot).withSettings t) []).slot j = s.slot j :=
    State.slot_becomes_ne _ _ _ hj
  refine .of_slot (i := e.slot) (fun j hj => hothers j hj ▸ .refl _)
    (fun h => hwritten.laws (laws_withSettings (h.slots e.slot) t)) (fun _ => ?_) (fun _ => ?_) ⟨rfl, rfl⟩ rfl fun h => ?_
  · rw [hwritten.amount]
    exact ⟨(congrArg (s.budget.committed - ·) (Nat.sub_self _)).symm, Nat.le_refl _⟩
  · rw [hwritten.ramps]
    exact ⟨(congrArg (s.admission.inrushHeld - ·) (Nat.sub_self _)).symm, Nat.le_refl _⟩
  · have hleft := (State.KeepsPower.leaves (i := e.slot) (sl := { s.slot e.slot with power := .idle, operation := none }) []
      hwaiting (fun hlaws => hlaws.waiting_to_idle hwaiting) ⟨rfl, PowerState.noConfusion⟩) h
    have hidle := ((s.leaveQueue e.slot).stands_becomes e.slot
      { s.slot e.slot with power := .idle, operation := none } []).power
    refine hleft.1.queue.of_placed rfl rfl rfl (Nat.zero_le _) ?_ ⟨?_, ?_, ?_⟩ fun j hj => ?_
    · show (((s.leaveQueue e.slot).becomes e.slot _ []).slot e.slot).power ≠ .waiting
      rw [hidle]
      exact PowerState.noConfusion
    · exact hwritten.power.trans hwaiting
    · exact hwritten.priority.symm
    · refine (congrArg (Option.map _) hwritten.operation).trans ?_
      exact (hentries e hmem).2
    · rw [State.slot_becomes_ne _ _ _ hj, State.slot_becomes_ne _ _ _ hj]
      exact ⟨rfl, rfl, rfl⟩

theorem setSlotRequest_fst (s : State) (payload : List Byte) : s.KeepsPower (setSlotRequest payload s).1 := by
  unfold setSlotRequest
  split
  · split
    · exact .refl s
    · dsimp only
      split
      · exact .refl s
      · split
        · exact .refl s
        · rename_i i _ _ _ t _
          dsimp only
          split
          · rename_i hmoves
            exact moves s _ _ hmoves.1
          · rename_i hstays
            by_cases hwaiting : (s.slot i).power = .waiting
            · have hpriority : t.priority = (s.slot i).priority := by
                by_contra hdiffers
                exact hstays ⟨hwaiting, hdiffers⟩
              exact .upd_stands s i ⟨fun h => laws_withSettings h t, rfl, rfl, hpriority, rfl⟩
            · rw [State.upd_eq_becomes]
              exact .becomes_record [] rfl rfl ⟨rfl, rfl, rfl, rfl⟩ (fun h => laws_withSettings h _) rfl rfl
                ⟨hwaiting, hwaiting⟩
  · exact .refl s

end

end State.KeepsPower
end Sys2Proof.Machine
end

section
set_option Elab.async false -- few threads at a time: each takes its stack from the check's memory
/-! PROOFS. Shedding: the order of the victims, who is shed, and the ceiling recomputed (R6, R7, R75 to R78, R85). -/
namespace Sys2Proof.Machine

/-! ### Shedding order (R77) -/

section
variable {s : State} {i j k : SlotId}

/-- The draining slots rank before the others, and each of the two groups by numbers alone. -/
theorem State.RanksBefore.trans (hij : s.RanksBefore i j) (hjk : s.RanksBefore j k) : s.RanksBefore i k := by
  simp only [State.RanksBefore, Fin.lt_def] at hij hjk ⊢
  by_cases hi : (s.slot i).power = .drain <;> by_cases hj : (s.slot j).power = .drain <;>
    by_cases hk : (s.slot k).power = .drain <;> simp only [hi, hj, hk, if_true, if_false, not_true, not_false_iff, ne_eq,
      true_implies, false_implies, false_and, true_and] at hij hjk ⊢
  all_goals omega

theorem State.RanksBefore.irrefl : ¬s.RanksBefore i i := by
  simp only [State.RanksBefore]
  by_cases hi : (s.slot i).power = .drain <;> simp [hi]

theorem State.RanksBefore.asymm (hij : s.RanksBefore i j) : ¬s.RanksBefore j i := fun hji => irrefl (hij.trans hji)

/-- Two slots rank by the records of their own and the time (R77). -/
theorem State.ranksBefore_congr {t : State} (hi : t.slot i = s.slot i) (hj : t.slot j = s.slot j)
    (hnow : t.part.uptime = s.part.uptime) : t.RanksBefore i j ↔ s.RanksBefore i j := by
  simp only [State.RanksBefore, State.drainElapsed, hi, hj, hnow]

theorem State.ranksBefore_of_shedsBefore (h : s.shedsBefore i j = true) : s.RanksBefore i j := by
  unfold State.shedsBefore at h
  simp only [State.RanksBefore]
  by_cases hi : (s.slot i).power = .drain <;> by_cases hj : (s.slot j).power = .drain <;> simp_all
  tauto

/-- Of two slots neither of which goes first, the lower number does (R77). -/
theorem State.ranksBefore_of_not_shedsBefore (h : s.shedsBefore j i = false) (hlt : i < j) : s.RanksBefore i j := by
  unfold State.shedsBefore at h
  simp only [State.RanksBefore]
  by_cases hi : (s.slot i).power = .drain <;> by_cases hj : (s.slot j).power = .drain <;> simp_all
  all_goals omega

/-- The next victim of a list in ascending order ranks before every other slot of it that holds a commitment (R76, R77). -/
theorem State.firstVictim_spec (s : State) : ∀ {l : List SlotId}, l.Pairwise (· < ·) →
    (s.firstVictim l = none → ∀ j ∈ l, (s.slot j).commitment = none) ∧
    ∀ i, s.firstVictim l = some i → i ∈ l ∧ (s.slot i).commitment.isSome = true ∧
      ∀ j ∈ l, (s.slot j).commitment.isSome = true → j ≠ i → s.RanksBefore i j := by
  intro l hl
  induction l with
  | nil => exact ⟨fun _ => List.forall_mem_nil _, fun i h => nomatch h⟩
  | cons a rest ih =>
    obtain ⟨ha, hrest⟩ := List.pairwise_cons.1 hl
    obtain ⟨hnone, hsome⟩ := ih hrest
    have hcommits : ∀ j, (s.slot j).commitment.isSome = false → (s.slot j).commitment = none := fun j hj =>
      Option.isNone_iff_eq_none.1 (Option.isSome_eq_false_iff.1 hj)
    cases hv : s.firstVictim rest with
    | none =>
      have hfirst : s.firstVictim (a :: rest) = if (s.slot a).commitment.isSome then some a else none := by
        simp only [State.firstVictim, hv]
      rw [hfirst]
      cases hc : (s.slot a).commitment.isSome with
      | true =>
        refine ⟨nofun, fun i hi => ?_⟩
        obtain rfl := Option.some.inj hi
        refine ⟨List.mem_cons_self, hc, fun j hj hjc hne => ?_⟩
        obtain rfl | hj := List.mem_cons.1 hj
        · exact absurd rfl hne
        · rw [hnone hv j hj] at hjc
          exact Bool.noConfusion hjc
      | false =>
        refine ⟨fun _ j hj => ?_, nofun⟩
        obtain rfl | hj := List.mem_cons.1 hj
        · exact hcommits _ hc
        · exact hnone hv j hj
    | some v =>
      obtain ⟨hmem, hvc, hleast⟩ := hsome v hv
      have hfirst : s.firstVictim (a :: rest) =
          if (s.slot a).commitment.isSome ∧ s.shedsBefore v a = false then some a else some v := by
        simp only [State.firstVictim, hv]
      rw [hfirst]
      by_cases hwins : (s.slot a).commitment.isSome = true ∧ s.shedsBefore v a = false
      · obtain ⟨hac, hnot⟩ := hwins
        have hav : s.RanksBefore a v := State.ranksBefore_of_not_shedsBefore hnot (ha v hmem)
        rw [if_pos ⟨hac, hnot⟩]
        refine ⟨nofun, fun i hi => ?_⟩
        obtain rfl := Option.some.inj hi
        refine ⟨List.mem_cons_self, hac, fun j hj hjc hne => ?_⟩
        obtain rfl | hj := List.mem_cons.1 hj
        · exact absurd rfl hne
        · by_cases hjv : j = v
          · exact hjv ▸ hav
          · exact hav.trans (hleast j hj hjc hjv)
      · rw [if_neg hwins]
        refine ⟨nofun, fun i hi => ?_⟩
        obtain rfl := Option.some.inj hi
        refine ⟨List.mem_cons_of_mem a hmem, hvc, fun j hj hjc hne => ?_⟩
        obtain rfl | hj := List.mem_cons.1 hj
        · refine State.ranksBefore_of_shedsBefore (Bool.eq_true_of_not_eq_false fun hnot => hwins ⟨hjc, hnot⟩)
        · exact hleast j hj hjc hne

theorem allSlots_ascending : allSlots.Pairwise (· < ·) := by
  rw [allSlots]
  decide

/-! ### One victim -/

theorem State.shedVictim_part_uptime (s : State) (i : SlotId) : (s.shedVictim i).part.uptime = s.part.uptime := by
  have hpart : (s.afterRelease i).part.uptime = s.part.uptime := by rw [s.afterRelease_part i]
  rw [State.shedVictim_eq_becomes]
  split <;> exact hpart

/-- Shedding a victim leaves every other slot's record alone. -/
theorem State.slot_shedVictim_ne (s : State) {i j : SlotId} (h : j ≠ i) : (s.shedVictim i).slot j = s.slot j := by
  rw [State.shedVictim_eq_becomes]
  split
  · rw [State.slot_becomes_ne _ _ _ h]
    exact s.slot_afterRelease i j
  · rw [State.slot_becomes_ne _ _ _ h]
    exact s.slot_afterRelease i j

theorem State.shedVictim_releases (s : State) (i : SlotId) : ((s.shedVictim i).slot i).commitment = none := by
  have hshed : ((s.slot i).shed s.part.uptime).commitment = none :=
    ((s.slot i).off .idle).ended_power .shed s.part.uptime |>.2
  rw [State.shedVictim_eq_becomes]
  split <;> rw [State.slot_becomes_same] <;> exact hshed

/-! ### Shedding -/

/-- The victims that shedding takes, at most `n` of them, in their order (R75). -/
def State.victims : Nat → State → List SlotId
  | 0, _ => []
  | n + 1, s =>
    if s.budget.committed ≤ s.budget.ceiling then []
    else s.victim.elim [] fun i => i :: State.victims n (s.shedVictim i)

theorem State.shedLoop_eq_foldl (n : Nat) (s : State) : s.shedLoop n = (s.victims n).foldl State.shedVictim s := by
  induction n generalizing s with
  | zero => rfl
  | succ n ih =>
    by_cases hcovered : s.budget.committed ≤ s.budget.ceiling
    · rw [State.shedLoop_of_committed_le hcovered, State.victims, if_pos hcovered]
      rfl
    · rw [State.shedLoop_succ_of_over hcovered, State.victims, if_neg hcovered]
      cases s.victim with
      | none => rfl
      | some i => exact ih (s.shedVictim i)

/-- One for a record that holds a commitment. -/
def Slot.held (sl : Slot) : Nat := if sl.commitment.isSome then 1 else 0

/-- How many slots hold a commitment. -/
def State.holders (s : State) : Nat := (allSlots.map fun i => (s.slot i).held).sum

/-- What the slots that do not rank before a slot have committed (R77). -/
def State.committedFrom (s : State) (i : SlotId) : Nat :=
  ((allSlots.filter fun j => (s.slot j).power.powered && !decide (s.RanksBefore j i)).map fun j => (s.slot j).amount).sum

/-- Shedding, whole: who is taken, in which order, and what it leaves (R75 to R78). -/
structure State.Sheds (s : State) (victims : List SlotId) (after : State) : Prop where
  keeps : s.KeepsPower after
  order : victims.Pairwise fun i j => s.RanksBefore i j
  taken : ∀ i ∈ victims, (s.slot i).power.powered = true ∧ s.budget.ceiling < s.committedFrom i
  ahead : ∀ i ∉ victims, (s.slot i).power.powered = true → ∀ v ∈ victims, s.RanksBefore v i
  others : ∀ i ∉ victims, after.slot i = s.slot i
  released : ∀ i ∈ victims, (after.slot i).commitment = none

/-- Of lawful records exactly the powered ones hold a commitment (R11). -/
theorem State.PowerHeld.powered_iff {s : State} (h : s.PowerHeld) (i : SlotId) :
    (s.slot i).power.powered = true ↔ (s.slot i).commitment.isSome = true := by
  rw [(h.slots i).commitment]

theorem State.PowerHeld.unpowered_of_none {s : State} (h : s.PowerHeld) {i : SlotId}
    (hnone : (s.slot i).commitment = none) : (s.slot i).power.powered ≠ true := fun hpower => by
  have hsome := (h.powered_iff i).1 hpower
  rw [hnone] at hsome
  exact Bool.noConfusion hsome

/-- With no commitment held nothing is committed (R11). -/
theorem State.PowerHeld.committed_eq_zero {s : State} (h : s.PowerHeld) (hnone : ∀ i, (s.slot i).commitment = none) :
    s.budget.committed = 0 := by
  rw [h.committed]
  refine List.sum_eq_zero fun x hx => ?_
  obtain ⟨i, -, rfl⟩ := List.mem_map.1 hx
  rw [Slot.amount, hnone i]

/-- The next victim of a lawful state is powered and ranks before every other powered slot; there is none only where
nothing is committed (R76, R77). -/
theorem State.PowerHeld.victim_spec {s : State} (h : s.PowerHeld) :
    (s.victim = none → s.budget.committed = 0) ∧
    ∀ v, s.victim = some v → (s.slot v).power.powered = true ∧
      ∀ j, (s.slot j).power.powered = true → j ≠ v → s.RanksBefore v j := by
  obtain ⟨hnone, hsome⟩ := s.firstVictim_spec allSlots_ascending
  refine ⟨fun hv => h.committed_eq_zero fun i => hnone hv i (List.mem_finRange i), fun v hv => ?_⟩
  obtain ⟨-, hcommits, hfirst⟩ := hsome v hv
  exact ⟨(h.powered_iff v).2 hcommits, fun j hj => hfirst j (List.mem_finRange j) ((h.powered_iff j).1 hj)⟩

/-- The slots that do not rank before the first of all have committed the whole total. -/
theorem State.PowerHeld.committedFrom_first {s : State} (h : s.PowerHeld) {v : SlotId}
    (hfirst : ∀ j, (s.slot j).power.powered = true → j ≠ v → s.RanksBefore v j) :
    s.committedFrom v = s.budget.committed := by
  rw [State.committedFrom, sum_map_filter_eq, h.committed]
  refine congrArg List.sum (List.map_congr_left fun j _ => ?_)
  cases hpower : (s.slot j).power.powered with
  | false => exact (((s.slot j).lawful_iff.2 (h.slots j)).amount_of_unpowered hpower).symm
  | true =>
    have hnot : ¬s.RanksBefore j v := by
      by_cases hj : j = v
      · exact hj ▸ State.RanksBefore.irrefl
      · exact (hfirst j hpower hj).asymm
    rw [decide_eq_false hnot]
    rfl

section
variable {v : SlotId}

/-- Among the slots that are left, shedding the victim changes no rank. -/
theorem State.ranksBefore_shedVictim (s : State) {i j : SlotId} (hi : i ≠ v) (hj : j ≠ v) :
    (s.shedVictim v).RanksBefore i j ↔ s.RanksBefore i j :=
  State.ranksBefore_congr (s.slot_shedVictim_ne hi) (s.slot_shedVictim_ne hj) (s.shedVictim_part_uptime v)

/-- The first of all is shed: for every other slot the same has been committed from there on. -/
theorem State.PowerHeld.committedFrom_shedVictim {s : State} (ht : (s.shedVictim v).PowerHeld) {j : SlotId}
    (hj : j ≠ v) (hranks : s.RanksBefore v j) : (s.shedVictim v).committedFrom j = s.committedFrom j := by
  rw [State.committedFrom, State.committedFrom, sum_map_filter_eq, sum_map_filter_eq]
  refine congrArg List.sum (List.map_congr_left fun k _ => ?_)
  by_cases hk : k = v
  · subst hk
    rw [Bool.eq_false_of_not_eq_true (ht.unpowered_of_none (s.shedVictim_releases k)), decide_eq_true hranks]
    simp
  · rw [decide_eq_decide.2 (s.ranksBefore_shedVictim hk hj), s.slot_shedVictim_ne hk]

theorem State.holders_shedVictim (s : State) (hcommits : (s.slot v).commitment.isSome = true) :
    (s.shedVictim v).holders + 1 = s.holders := by
  have hchange := sum_allSlots_change (f := fun i => ((s.shedVictim v).slot i).held) (g := fun i => (s.slot i).held)
    fun j (hj : j ≠ v) => congrArg Slot.held (s.slot_shedVictim_ne hj)
  have hone : (s.slot v).held = 1 := if_pos hcommits
  have hzero : ((s.shedVictim v).slot v).held = 0 := by rw [Slot.held, s.shedVictim_releases v]; rfl
  rw [hone, hzero] at hchange
  rw [State.holders, State.holders]
  omega

/-- The first of all is shed, and then what the state it leaves asks for (R75). -/
theorem State.Sheds.of_first {s after : State} {rest : List SlotId} (h : s.PowerHeld)
    (hover : s.budget.ceiling < s.budget.committed) (hpowered : (s.slot v).power.powered = true)
    (hfirst : ∀ j, (s.slot j).power.powered = true → j ≠ v → s.RanksBefore v j)
    (hrest : (s.shedVictim v).Sheds rest after) : s.Sheds (v :: rest) after := by
  have hkept : s.KeepsPower (s.shedVictim v) := (State.KeepsPower.refl s).shedVictim v hpowered
  obtain ⟨ht, -, hceiling, -⟩ := hkept h
  have hdead := ht.unpowered_of_none (s.shedVictim_releases v)
  have hne : ∀ j, ((s.shedVictim v).slot j).power.powered = true → j ≠ v := by
    rintro j hj rfl
    exact hdead hj
  have hout : v ∉ rest := fun hv => hdead (hrest.taken v hv).1
  have hlater : ∀ j ∈ rest, j ≠ v ∧ (s.slot j).power.powered = true := by
    intro j hj
    have hpower := (hrest.taken j hj).1
    have hjv := hne j hpower
    rw [s.slot_shedVictim_ne hjv] at hpower
    exact ⟨hjv, hpower⟩
  refine ⟨hkept.trans hrest.keeps, List.pairwise_cons.2 ⟨fun j hj => ?_, ?_⟩, fun i hi => ?_, fun i hi hpower w hw => ?_,
    fun i hi => ?_, fun i hi => ?_⟩
  · obtain ⟨hjv, hpower⟩ := hlater j hj
    exact hfirst j hpower hjv
  · exact hrest.order.imp_of_mem fun {i j} hi hj hij => (s.ranksBefore_shedVictim (hlater i hi).1 (hlater j hj).1).1 hij
  · obtain rfl | hi := List.mem_cons.1 hi
    · refine ⟨hpowered, ?_⟩
      rw [h.committedFrom_first hfirst]
      exact hover
    · obtain ⟨hiv, hpower⟩ := hlater i hi
      have htaken := (hrest.taken i hi).2
      rw [hceiling, ht.committedFrom_shedVictim hiv (hfirst i hpower hiv)] at htaken
      exact ⟨hpower, htaken⟩
  · have hiv := List.ne_of_not_mem_cons hi
    have hi := List.not_mem_of_not_mem_cons hi
    obtain rfl | hw := List.mem_cons.1 hw
    · exact hfirst i hpower hiv
    · have hahead := hrest.ahead i hi (by rw [s.slot_shedVictim_ne hiv]; exact hpower) w hw
      exact (s.ranksBefore_shedVictim (hlater w hw).1 hiv).1 hahead
  · have hiv := List.ne_of_not_mem_cons hi
    have hi := List.not_mem_of_not_mem_cons hi
    rw [hrest.others i hi, s.slot_shedVictim_ne hiv]
  · obtain rfl | hi := List.mem_cons.1 hi
    · rw [hrest.others i hout]
      exact s.shedVictim_releases i
    · exact hrest.released i hi

end

theorem State.Sheds.none (s : State) : s.Sheds [] s :=
  ⟨.refl s, List.Pairwise.nil, List.forall_mem_nil _, fun _ _ _ => List.forall_mem_nil _, fun _ _ => rfl,
    List.forall_mem_nil _⟩

/-- The victims are those of `State.Sheds`, and once there may be as many as hold a commitment the ceiling covers the rest. -/
theorem State.PowerHeld.sheds {s : State} (h : s.PowerHeld) (n : Nat) :
    s.Sheds (s.victims n) ((s.victims n).foldl State.shedVictim s) ∧
    (s.holders ≤ n → ((s.victims n).foldl State.shedVictim s).budget.committed ≤ s.budget.ceiling) := by
  induction n generalizing s with
  | zero =>
    refine ⟨.none s, fun hholders => ?_⟩
    have hnone (i : SlotId) : (s.slot i).commitment = Option.none := by
      have hle := le_sum_allSlots (fun i => (s.slot i).held) i
      cases hc : (s.slot i).commitment with
      | none => rfl
      | some c =>
        have hone : (s.slot i).held = 1 := by rw [Slot.held, hc]; rfl
        exact absurd (hone ▸ hle.trans hholders) (by decide)
    exact (h.committed_eq_zero hnone).le.trans (Nat.zero_le _)
  | succ n ih =>
    obtain ⟨hnone, hsome⟩ := h.victim_spec
    by_cases hcovered : s.budget.committed ≤ s.budget.ceiling
    · rw [State.victims, if_pos hcovered]
      exact ⟨.none s, fun _ => hcovered⟩
    · rw [State.victims, if_neg hcovered]
      cases hv : s.victim with
      | none => exact absurd ((hnone hv).le.trans (Nat.zero_le _)) hcovered
      | some v =>
        obtain ⟨hpowered, hfirst⟩ := hsome v hv
        obtain ⟨ht, -, hceiling, -⟩ := (State.KeepsPower.refl s).shedVictim v hpowered h
        obtain ⟨hrest, hcovers⟩ := ih ht
        refine ⟨hrest.of_first h (Nat.lt_of_not_le hcovered) hpowered hfirst, fun hholders => ?_⟩
        have hholds := s.holders_shedVictim ((h.powered_iff v).1 hpowered)
        exact hceiling ▸ hcovers (by omega)

/-! ### The ceiling recomputed (R6, R7, R85) -/

theorem State.holders_le (s : State) : s.holders ≤ 24 := by
  refine (List.sum_le_card_nsmul _ 1 fun x hx => ?_).trans (by rw [List.length_map, allSlots, List.length_finRange]; rfl)
  obtain ⟨i, -, rfl⟩ := List.mem_map.1 hx
  unfold Slot.held
  split
  · exact Nat.le_refl 1
  · exact Nat.zero_le 1

/-- Where the old ceiling covers the committed total, recomputing it is the new ceiling and then the shedding. -/
theorem State.recompute_eq_shedLoop {s : State} (h : s.budget.committed ≤ s.budget.ceiling) :
    s.recompute = s.ceilingFollows.shedLoop 24 := by
  by_cases hcovered : s.budget.committed ≤ s.budget.computed
  · rw [State.recompute_eq_ceilingFollows hcovered, State.shedLoop_of_committed_le hcovered]
  · have hfalls : s.budget.computed < s.budget.ceiling := (Nat.lt_of_not_le hcovered).trans_le h
    have hnot : ¬s.budget.ceiling < s.budget.computed := Nat.lt_asymm hfalls
    simp only [State.recompute, State.ceilingFollows, hfalls.ne, hnot, if_false, State.occur_none_eq_posting, decide_false,
      Bool.or_false]

theorem State.PowerHeld.ceilingFollows {s : State} (h : s.PowerHeld) : s.ceilingFollows.PowerHeld := by
  obtain ⟨-, -, -, -, hranges, -⟩ := h.queue
  refine h.of_stands (fun i => .refl _) rfl rfl h.free h.positions ?_ rfl
  refine ⟨fun e => if s.budget.ceiling < s.budget.computed then { e with heldForRise := false } else e, ?_, fun e he => ?_⟩
  · show (if s.budget.ceiling < s.budget.computed then _ else _) = _
    split
    · rfl
    · exact (List.map_id _).symm
  · have hby := (hranges e he).2.2
    split
    · exact ⟨rfl, rfl, rfl, rfl, rfl, hby⟩
    · exact ⟨rfl, rfl, rfl, rfl, rfl, hby⟩

/-- The laws of power after the ceiling has been recomputed (R6). -/
theorem State.PowerHeld.recompute {s : State} (h : s.PowerHeld) (hcovered : s.budget.committed ≤ s.budget.ceiling) :
    s.recompute.PowerLawful := by
  obtain ⟨hsheds, hcovers⟩ := h.ceilingFollows.sheds 24
  rw [State.recompute_eq_shedLoop hcovered, State.shedLoop_eq_foldl]
  obtain ⟨hheld, -, hceiling, hcomputed⟩ := hsheds.keeps h.ceilingFollows
  refine (State.powerLawful_iff _).2 ⟨hheld, ?_, ?_⟩
  · rw [hceiling]
    exact hcovers (State.holders_le _)
  · rw [hceiling, hcomputed]
    rfl

/-! ### A change of GOOD that sheds (R7, R75 to R78) -/

/-- The victims are exactly the slots from which on, in shedding order, more was committed than the ceiling allows (R75,
R77). -/
theorem State.Sheds.mem_iff {s after : State} {victims : List SlotId} (h : s.Sheds victims after) (hs : s.PowerHeld)
    (hcovers : after.budget.committed ≤ s.budget.ceiling) (i : SlotId) :
    i ∈ victims ↔ (s.slot i).power.powered = true ∧ s.budget.ceiling < s.committedFrom i := by
  refine ⟨h.taken i, fun ⟨hpower, hover⟩ => Classical.byContradiction fun hi => ?_⟩
  obtain ⟨hafter, -⟩ := h.keeps hs
  have hle : s.committedFrom i ≤ after.budget.committed := by
    rw [State.committedFrom, sum_map_filter_eq, hafter.committed]
    refine List.sum_le_sum fun j _ => ?_
    by_cases hj : j ∈ victims
    · rw [decide_eq_true (h.ahead i hi hpower j hj)]
      simp
    · rw [h.others j hj]
      split
      · exact Nat.le_refl _
      · exact Nat.zero_le _
  exact Nat.not_lt.2 (hle.trans hcovers) hover

/-- Settles O34: the new ceiling, and then the victims of `State.PowerHeld.sheds`. -/
theorem sheddingTakesTheRightSlots : Obligations.SheddingTakesTheRightSlots := by
  intro s n good hlawful hchanges old supplies would before
  obtain ⟨hheld, hcovered, -⟩ := s.powerLawful_iff.1 hlawful
  have hchanged : ((s.withGood n good).posting [(none, .supply)]).PowerHeld :=
    hheld.of_stands (fun _ => .refl _) rfl rfl hheld.free hheld.positions
      ⟨id, (List.map_id _).symm, fun e he => ⟨rfl, rfl, rfl, rfl, rfl, (hheld.queue.2.2.2.2.1 e he).2.2⟩⟩ rfl
  have hbefore : ((s.withGood n good).posting [(none, .supply)]).ceilingFollows = before :=
    State.ceilingFollows_posting (s.withGood n good) [(none, .supply)]
  have hlaws : before.PowerHeld := hbefore ▸ hchanged.ceilingFollows
  have heffect : s.supplyChange n good = (before.victims 24).foldl State.shedVictim before := by
    have hrecompute : s.supplyChange n good = ((s.withGood n good).posting [(none, .supply)]).recompute := by
      rw [← State.occur_none_eq_posting]
      rfl
    have hold : ((s.withGood n good).posting [(none, .supply)]).budget.committed ≤
        ((s.withGood n good).posting [(none, .supply)]).budget.ceiling := hcovered
    rw [hrecompute, State.recompute_eq_shedLoop hold, hbefore, State.shedLoop_eq_foldl]
  obtain ⟨hsheds, hcovers⟩ := hlaws.sheds 24
  have hcovers := hcovers before.holders_le
  exact ⟨before.victims 24, State.happen_eq (decide_eq_true hchanges) heffect, hsheds.order, hsheds.mem_iff hlaws hcovers,
    hsheds.others, hsheds.released, hcovers⟩

end

end Sys2Proof.Machine
end

section
set_option Elab.async false -- few threads at a time: each takes its stack from the check's memory
/-! PROOFS. A whole admission pass: whom it admits, what each entry is tested against, and what it leaves (R36 to R39). -/
namespace Sys2Proof.Machine

/-! ### What a pass does with one entry (R37) -/

/-- A pass stands aside for a marked or unseated entry (R37). -/
def State.asideFor (s : State) (e : QueueEntry) : Bool := e.heldForRise || !(s.slot e.slot).seated

/-- A position may be taken (R30, R33). -/
def State.hasPosition (s : State) : Prop := s.admission.gate = .opened ∧ s.admission.inrushHeld < s.admission.positions

/-- An entry whose draw does not fit blocks those behind it (R37). -/
def State.blockedAt (s : State) (e : QueueEntry) : Prop := s.admission.policy = .strict ∨ s.admission.bypassLimit ≤ e.bypass

theorem State.not_hasPosition_iff (s : State) :
    ¬s.hasPosition ↔ s.admission.gate = .held ∨ s.admission.positions ≤ s.admission.inrushHeld := by
  rw [State.hasPosition]
  cases s.admission.gate <;> simp

theorem Budget.fits_iff (b : Budget) (draw : Nat) :
    b.fits draw = true ↔ 0 < b.ceiling ∧ b.committed + draw ≤ b.ceiling := by
  simp [Budget.fits]

section
variable {s : State} {e : QueueEntry} {draw : Nat}

/-- The four verdicts on an entry whose slot has an effective draw (R37). -/
theorem State.judge_cases (hdraw : s.effectiveDraw e.slot = some draw) :
    (s.asideFor e = true ∧ s.judge e = .standsAside) ∨
    (s.asideFor e = false ∧ (¬s.hasPosition ∨ (¬s.budget.fits draw = true ∧ s.blockedAt e)) ∧ s.judge e = .passEnds) ∨
    (s.asideFor e = false ∧ s.hasPosition ∧ s.budget.fits draw = true ∧ s.judge e = .admitted draw) ∨
    (s.asideFor e = false ∧ s.hasPosition ∧ ¬s.budget.fits draw = true ∧ ¬s.blockedAt e ∧ s.judge e = .passedOver) := by
  cases haside : s.asideFor e with
  | true => exact .inl ⟨rfl, State.judge_of_aside haside⟩
  | false =>
    by_cases hposition : s.hasPosition
    · have hjudge := State.judge_of_draw haside (fun h => (s.not_hasPosition_iff.2 h) hposition) hdraw
      by_cases hfits : s.budget.fits draw = true
      · exact .inr (.inr (.inl ⟨rfl, hposition, hfits, hjudge.trans (if_pos hfits)⟩))
      · rw [if_neg hfits] at hjudge
        by_cases hblocked : s.blockedAt e
        · exact .inr (.inl ⟨rfl, .inr ⟨hfits, hblocked⟩, hjudge.trans (if_pos hblocked)⟩)
        · exact .inr (.inr (.inr ⟨rfl, hposition, hfits, hblocked, hjudge.trans (if_neg hblocked)⟩))
    · exact .inr (.inl ⟨rfl, .inl hposition, State.judge_of_no_position haside (s.not_hasPosition_iff.1 hposition)⟩)

theorem State.judge_eq_admitted_iff (hdraw : s.effectiveDraw e.slot = some draw) :
    s.judge e = .admitted draw ↔ s.asideFor e = false ∧ s.hasPosition ∧ s.budget.fits draw = true := by
  obtain ⟨h1, hj⟩ | ⟨-, h2, hj⟩ | ⟨h1, h2, h3, hj⟩ | ⟨-, -, h3, -, hj⟩ := State.judge_cases hdraw <;> rw [hj]
  · simp [h1]
  · simp only [reduceCtorEq, false_iff]
    rintro ⟨-, hposition, hfits⟩
    exact h2.elim (fun h => h hposition) fun h => h.1 hfits
  · simp [h1, h2, h3]
  · simp [h3]

theorem State.judge_eq_passEnds_iff (hdraw : s.effectiveDraw e.slot = some draw) :
    s.judge e = .passEnds ↔
      s.asideFor e = false ∧ (¬s.hasPosition ∨ (¬s.budget.fits draw = true ∧ s.blockedAt e)) := by
  obtain ⟨h1, hj⟩ | ⟨h1, h2, hj⟩ | ⟨-, h2, h3, hj⟩ | ⟨-, h2, -, h4, hj⟩ := State.judge_cases hdraw <;> rw [hj]
  · simp [h1]
  · exact iff_of_true rfl ⟨h1, h2⟩
  · simp [h2, h3]
  · simp [h2, h4]

end

/-! ### Admissions in a row (R39) -/

section
variable (draw : QueueEntry → Nat)

/-- One entry admitted with its draw. -/
def State.admitOne (s : State) (e : QueueEntry) : State := s.admitSlot e.slot (draw e)

/-- The entries of a list admitted in turn. -/
def State.admitAll (s : State) (l : List QueueEntry) : State := l.foldl (State.admitOne draw) s

/-- The admission stamps that follow one another (R39). -/
def stampsOn (n counter : Nat) : Nat := (fun k => min 4294967295 (k + 1))^[n] counter

variable {draw} {s : State}

theorem State.slot_admit_ne {e : QueueEntry} {i : SlotId} (h : i ≠ e.slot) : (s.admitOne draw e).slot i = s.slot i := by
  rw [State.admitOne, State.admitSlot_eq_becomes, State.slot_becomes_ne _ _ _ h]
  rfl

theorem State.slot_admit_same (e : QueueEntry) :
    (s.admitOne draw e).slot e.slot =
      ((s.slot e.slot).admitted (s.profiles.get (s.slot e.slot).profileIndex) (draw e)
        (min 4294967295 (s.admission.admissionCounter + 1))).driven s.slow.lit s.fast.lit := by
  rw [State.admitOne, State.admitSlot_eq_becomes, State.slot_becomes_same]
  simp [kindsFor, State.afterAdmit]

theorem State.slot_admitAll_of_absent {l : List QueueEntry} {i : SlotId} (h : ∀ e ∈ l, e.slot ≠ i) :
    (s.admitAll draw l).slot i = s.slot i := by
  induction l generalizing s with
  | nil => rfl
  | cons e rest ih =>
    obtain ⟨he, hrest⟩ := List.forall_mem_cons.1 h
    exact (ih (s := s.admitOne draw e) hrest).trans (State.slot_admit_ne he.symm)

/-- Beside the records, admissions move the committed total, the positions and the admission counter alone (R39). -/
theorem State.admitAll_eq_with (l : List QueueEntry) (s : State) :
    ∃ slots, s.admitAll draw l = { s with
      slots := slots
      budget.committed := s.budget.committed + (l.map draw).sum
      admission.inrushHeld := s.admission.inrushHeld + l.length
      admission.admissionCounter := stampsOn l.length s.admission.admissionCounter } := by
  induction l generalizing s with
  | nil => exact ⟨s.slots, rfl⟩
  | cons e rest ih =>
    obtain ⟨slots, hrest⟩ := ih (s.admitOne draw e)
    refine ⟨slots, hrest.trans ?_⟩
    rw [State.admitOne, State.admitSlot_eq_becomes, State.becomes, State.posting_nil]
    simp only [State.afterAdmit, List.map_cons, List.sum_cons, List.length_cons, Nat.add_assoc, Nat.add_comm 1]
    rfl

/-- An entry whose slot is in AUX_RAMP at the end of a pass: one that the pass has admitted (R55). -/
def State.ramping (t : State) (e : QueueEntry) : Bool := decide ((t.slot e.slot).power = .auxRamp)

variable (draw)

/-- The state in which a pass that ends in `t` considers the entry behind the entries `a` (R37). -/
def State.passAt (s t : State) (a : List QueueEntry) : State := s.admitAll draw (a.filter t.ramping)

/-- The bypass count of an entry that stays: raised where it was passed over ahead of an admitted one (R38). -/
def QueueEntry.bypassAfter (e : QueueEntry) (verdict : Verdict) (any : Bool) : Nat :=
  if verdict = .passedOver ∧ any = true then min 15 (e.bypass + 1) else e.bypass

/-- Each entry waits for its own slot, which has this effective draw. -/
structure State.Queues (s : State) (q : List QueueEntry) : Prop where
  distinct : (q.map (·.slot)).Nodup
  waiting : ∀ e ∈ q, (s.slot e.slot).power = .waiting
  draws : ∀ e ∈ q, s.effectiveDraw e.slot = some (draw e)

/-- A walk of a pass, whole: the state it leaves, whom it admits, and what it leaves of the queue (R37, R38). -/
structure State.Walks (s : State) (q : List QueueEntry) (t : State) (kept : List QueueEntry) (any : Bool) : Prop where
  reaches : t = s.passAt draw t q
  admits : any = q.any t.ramping
  decides : ∀ a e b, q = a ++ e :: b →
    (t.ramping e = true ↔
      (s.passAt draw t a).judge e = .admitted (draw e) ∧
        ∀ x y z, a = x ++ y :: z → (s.passAt draw t x).judge y ≠ .passEnds)
  leaves : ∃ bypass : SlotId → Nat,
    kept = (q.filter fun e => !t.ramping e).map (fun e => { e with bypass := bypass e.slot }) ∧
    ∀ a e b, q = a ++ e :: b → t.ramping e = false →
      bypass e.slot = e.bypassAfter ((s.passAt draw t a).judge e) (b.any t.ramping)

variable {draw} {q rest kept : List QueueEntry} {e : QueueEntry} {t s' : State} {any : Bool}

theorem State.passAt_nil : s.passAt draw t [] = s := rfl

theorem State.passAt_cons_of_ramping (h : t.ramping e = true) (a : List QueueEntry) :
    s.passAt draw t (e :: a) = (s.admitOne draw e).passAt draw t a := by
  rw [State.passAt, List.filter_cons_of_pos h]
  rfl

theorem State.passAt_cons_of_not_ramping (h : t.ramping e = false) (a : List QueueEntry) :
    s.passAt draw t (e :: a) = s.passAt draw t a := by
  rw [State.passAt, List.filter_cons_of_neg (Bool.eq_false_iff.1 h)]
  rfl

/-- What holds wherever a list is cut holds at its head and wherever the rest is cut. -/
theorem forall_cut_cons {P : List QueueEntry → QueueEntry → List QueueEntry → Prop} :
    (∀ a x b, e :: rest = a ++ x :: b → P a x b) ↔ P [] e rest ∧ ∀ a x b, rest = a ++ x :: b → P (e :: a) x b := by
  constructor
  · intro h
    exact ⟨h [] e rest rfl, fun a x b hcut => h (e :: a) x b (congrArg (e :: ·) hcut)⟩
  · rintro ⟨hhead, hrest⟩ a x b hcut
    cases a with
    | nil =>
      obtain ⟨rfl, rfl⟩ := List.cons.inj hcut
      exact hhead
    | cons y a =>
      obtain ⟨rfl, htail⟩ := List.cons.inj hcut
      exact hrest a x b htail

theorem State.Queues.tail (h : s.Queues draw (e :: rest)) : s.Queues draw rest where
  distinct := (List.nodup_cons.1 h.distinct).2
  waiting x hx := h.waiting x (List.mem_cons_of_mem e hx)
  draws x hx := h.draws x (List.mem_cons_of_mem e hx)

theorem State.Queues.fresh (h : s.Queues draw (e :: rest)) : ∀ x ∈ rest, x.slot ≠ e.slot := fun x hx hslot =>
  (List.nodup_cons.1 h.distinct).1 (List.mem_map.2 ⟨x, hx, hslot⟩)

/-- An admission leaves the entries behind it waiting, with their draws. -/
theorem State.Queues.admitted (h : s.Queues draw (e :: rest)) : (s.admitOne draw e).Queues draw rest where
  distinct := h.tail.distinct
  waiting x hx := by
    rw [State.slot_admit_ne (h.fresh x hx)]
    exact h.tail.waiting x hx
  draws x hx := by
    have hdraw := h.tail.draws x hx
    have hclass : (s.admitOne draw e).budget.classDraws = s.budget.classDraws := by
      rw [State.admitOne, State.admitSlot_eq_becomes]
      rfl
    rw [State.effectiveDraw_eq] at hdraw ⊢
    rw [State.slot_admit_ne (h.fresh x hx), hclass]
    exact hdraw

/-- A walk leaves the slots that it does not consider alone. -/
theorem State.Walks.slot_of_absent {i : SlotId} (h : s.Walks draw q t kept any) (hi : ∀ x ∈ q, x.slot ≠ i) :
    t.slot i = s.slot i := by
  rw [h.reaches]
  exact State.slot_admitAll_of_absent fun x hx => hi x (List.mem_of_mem_filter hx)

/-- The walk goes on behind an entry, which has been admitted or has stayed with its bypass count (R37, R38). -/
theorem State.Walks.cons (hrest : s'.Walks draw rest t kept any)
    (hat : ∀ a, s.passAt draw t (e :: a) = s'.passAt draw t a) (hgoes : s.judge e ≠ .passEnds)
    (hramping : t.ramping e = true ↔ s.judge e = .admitted (draw e)) (hfresh : ∀ x ∈ rest, x.slot ≠ e.slot) :
    s.Walks draw (e :: rest) t
      (if t.ramping e then kept
        else { e with bypass := e.bypassAfter (s.judge e) any } :: kept)
      (t.ramping e || any) := by
  obtain ⟨hreaches, hadmits, hdecides, bypass, hkept, hbypass⟩ := hrest
  refine ⟨hreaches.trans (hat rest).symm, by rw [List.any_cons, hadmits], ?_,
    Function.update bypass e.slot (e.bypassAfter (s.judge e) any), ?_, ?_⟩
  · refine forall_cut_cons.2 ⟨?_, fun a x b hcut => ?_⟩
    · rw [hramping, State.passAt_nil]
      exact ⟨fun h => ⟨h, by simp⟩, fun h => h.1⟩
    · rw [hdecides a x b hcut, hat a, forall_cut_cons (P := fun x y _ => (s.passAt draw t x).judge y ≠ .passEnds),
        State.passAt_nil]
      simp only [hat]
      exact ⟨fun ⟨hx, hahead⟩ => ⟨hx, hgoes, hahead⟩, fun ⟨hx, _, hahead⟩ => ⟨hx, hahead⟩⟩
  · have hbehind : kept = (rest.filter fun x => !t.ramping x).map fun x =>
        { x with bypass := Function.update bypass e.slot (e.bypassAfter (s.judge e) any) x.slot } := by
      rw [hkept]
      refine List.map_congr_left fun x hx => ?_
      rw [Function.update_of_ne (hfresh x (List.mem_of_mem_filter hx))]
    cases hr : t.ramping e with
    | true =>
      rw [List.filter_cons_of_neg (by simp [hr])]
      exact hbehind
    | false =>
      rw [List.filter_cons_of_pos (by simp [hr]), List.map_cons, Function.update_self]
      exact congrArg (List.cons _) hbehind
  · refine forall_cut_cons.2 ⟨fun _ => ?_, fun a x b hcut hx => ?_⟩
    · rw [Function.update_self, State.passAt_nil, hadmits]
    · have hmem : x ∈ rest := hcut ▸ List.mem_append_right a List.mem_cons_self
      rw [Function.update_of_ne (hfresh x hmem), hat]
      exact hbypass a x b hcut hx

/-- Entries of different slots have a bypass count for each slot. -/
theorem exists_bypass : ∀ {q : List QueueEntry}, (q.map (·.slot)).Nodup →
    ∃ bypass : SlotId → Nat, ∀ e ∈ q, bypass e.slot = e.bypass
  | [], _ => ⟨fun _ => 0, List.forall_mem_nil _⟩
  | e :: rest, hdistinct => by
    obtain ⟨hout, hrest⟩ := List.nodup_cons.1 hdistinct
    obtain ⟨bypass, hbypass⟩ := exists_bypass hrest
    refine ⟨Function.update bypass e.slot e.bypass, List.forall_mem_cons.2 ⟨Function.update_self .., fun x hx => ?_⟩⟩
    rw [Function.update_of_ne fun hslot => hout (List.mem_map.2 ⟨x, hx, hslot⟩)]
    exact hbypass x hx

/-- The walk ends where nobody is admitted and everything stays: at the end of the queue, or at an entry that ends the pass. -/
theorem State.Queues.stops (h : s.Queues draw q) (hends : ∀ e rest, q = e :: rest → s.judge e = .passEnds) :
    s.Walks draw q s q false := by
  have hnone : ∀ e ∈ q, s.ramping e = false := fun e he => decide_eq_false (by rw [h.waiting e he]; decide)
  have hmem : ∀ {a x b}, q = a ++ x :: b → x ∈ q := fun {a x b} hcut => hcut ▸ List.mem_append_right a List.mem_cons_self
  have hany : ∀ {a x b}, q = a ++ x :: b → b.any s.ramping = false := fun {a x b} hcut =>
    List.any_eq_false.2 fun y hy => by
      rw [hnone y (hcut ▸ List.mem_append_right a (List.mem_cons_of_mem x hy))]
      exact Bool.false_ne_true
  have hstays : q.filter (fun e => !s.ramping e) = q := List.filter_eq_self.2 fun e he => by rw [hnone e he]; rfl
  obtain ⟨bypass, hbypass⟩ := exists_bypass h.distinct
  refine ⟨?_, ?_, fun a x b hcut => ?_, bypass, ?_, fun a x b hcut _ => ?_⟩
  · rw [State.passAt, List.filter_eq_nil_iff.2 fun e he => Bool.eq_false_iff.1 (hnone e he)]
    rfl
  · exact (List.any_eq_false.2 fun e he => Bool.eq_false_iff.1 (hnone e he)).symm
  · rw [hnone x (hmem hcut)]
    refine iff_of_false Bool.false_ne_true ?_
    rintro ⟨hx, hahead⟩
    cases a with
    | nil =>
      rw [State.passAt_nil, hends x b hcut] at hx
      exact Verdict.noConfusion hx
    | cons y a => exact hahead [] y a rfl (hends y _ hcut)
  · rw [hstays]
    refine (List.map_id q).symm.trans (List.map_congr_left fun e he => ?_)
    rw [hbypass e he]
    rfl
  · rw [hany hcut, hbypass x (hmem hcut)]
    exact (if_neg fun h => Bool.false_ne_true h.2).symm

/-- What the walk of a pass does (R37, R38). -/
theorem State.Queues.passWalk : ∀ {q : List QueueEntry} {s : State}, s.Queues draw q →
    s.Walks draw q (passWalk q s).1 (passWalk q s).2.1 (passWalk q s).2.2
  | [], s, h => h.stops nofun
  | e :: rest, s, h => by
    have hwaiting : (s.slot e.slot).power = .waiting := h.waiting e List.mem_cons_self
    have hstays {t : State} {kept : List QueueEntry} {any : Bool} (hw : s.Walks draw rest t kept any) :
        t.ramping e = false := by
      rw [State.ramping, hw.slot_of_absent h.fresh, hwaiting]
      decide
    unfold Sys2Proof.Machine.passWalk
    obtain ⟨-, hj⟩ | ⟨-, -, hj⟩ | ⟨-, -, -, hj⟩ | ⟨-, -, -, -, hj⟩ := State.judge_cases (h.draws e List.mem_cons_self) <;>
      rw [hj]
    · have hw := State.Queues.passWalk h.tail
      have hr := hstays hw
      have hcons := hw.cons (State.passAt_cons_of_not_ramping hr) (by rw [hj]; exact Verdict.noConfusion)
        (by rw [hj, hr]; simp) h.fresh
      rw [hr, hj] at hcons
      exact hcons
    · refine h.stops fun x b hcut => ?_
      obtain ⟨rfl, -⟩ := List.cons.inj hcut
      exact hj
    · have hw := State.Queues.passWalk h.admitted
      have hr : (Sys2Proof.Machine.passWalk rest (s.admitOne draw e)).1.ramping e = true := by
        rw [State.ramping, hw.slot_of_absent h.fresh, State.slot_admit_same]
        rfl
      have hcons := hw.cons (State.passAt_cons_of_ramping hr) (by rw [hj]; exact Verdict.noConfusion)
        (by rw [hj, hr]; simp) h.fresh
      rw [hr] at hcons
      exact hcons
    · have hw := State.Queues.passWalk h.tail
      have hr := hstays hw
      have hcons := hw.cons (State.passAt_cons_of_not_ramping hr) (by rw [hj]; exact Verdict.noConfusion)
        (by rw [hj, hr]; simp) h.fresh
      rw [hr, hj] at hcons
      have hbump (any : Bool) : (if any then { e with bypass := satInc 15 e.bypass } else e) =
          { e with bypass := e.bypassAfter .passedOver any } := by
        cases any <;> rfl
      rw [← hbump] at hcons
      exact hcons

/-! ### What the entries of a pass are tested against (R10, R37) -/

theorem State.Queues.apart {a b : List QueueEntry} (h : s.Queues draw (a ++ e :: b)) :
    (∀ x ∈ a, x.slot ≠ e.slot) ∧ ∀ x ∈ b, x.slot ≠ e.slot := by
  have hdistinct := h.distinct
  rw [List.map_append, List.map_cons, List.nodup_middle, List.nodup_cons, ← List.map_append] at hdistinct
  have hne : ∀ x ∈ a ++ b, x.slot ≠ e.slot := fun x hx hslot => hdistinct.1 (List.mem_map.2 ⟨x, hx, hslot⟩)
  exact ⟨fun x hx => hne x (List.mem_append_left b hx), fun x hx => hne x (List.mem_append_right a hx)⟩

/-- The state in which a pass considers an entry, in the words of the state before the pass (R37). -/
theorem State.Queues.passAt_spec {a b : List QueueEntry} (h : s.Queues draw (a ++ e :: b)) (t : State) :
    (s.passAt draw t a).asideFor e = s.asideFor e ∧
    (s.passAt draw t a).effectiveDraw e.slot = some (draw e) ∧
    ((s.passAt draw t a).hasPosition ↔
      s.admission.gate = .opened ∧ s.admission.inrushHeld + (a.filter t.ramping).length < s.admission.positions) ∧
    ((s.passAt draw t a).budget.fits (draw e) = true ↔
      0 < s.budget.ceiling ∧ s.budget.committed + ((a.filter t.ramping).map draw).sum + draw e ≤ s.budget.ceiling) ∧
    ((s.passAt draw t a).blockedAt e ↔ s.blockedAt e) := by
  have hslot : (s.passAt draw t a).slot e.slot = s.slot e.slot :=
    State.slot_admitAll_of_absent fun x hx => h.apart.1 x (List.mem_of_mem_filter hx)
  have hdraw := h.draws e (List.mem_append_right a List.mem_cons_self)
  obtain ⟨slots, haccounts⟩ := State.admitAll_eq_with (draw := draw) (a.filter t.ramping) s
  rw [State.effectiveDraw_eq] at hdraw
  refine ⟨?_, ?_, ?_, ?_, ?_⟩
  · rw [State.asideFor, hslot]
    rfl
  · rw [State.effectiveDraw_eq, hslot, State.passAt, haccounts]
    exact hdraw
  · rw [State.passAt, haccounts]
    rfl
  · rw [Budget.fits_iff, State.passAt, haccounts]
  · rw [State.passAt, haccounts]
    rfl

/-- An entry admitted among others leaves its slot's record in AUX_RAMP (R39, R55). -/
theorem State.slot_admitAll_of_mem {x y : List QueueEntry} (hx : ∀ z ∈ x, z.slot ≠ e.slot) (hy : ∀ z ∈ y, z.slot ≠ e.slot) :
    (s.admitAll draw (x ++ e :: y)).slot e.slot =
      ((s.slot e.slot).admitted (s.profiles.get (s.slot e.slot).profileIndex) (draw e)
        (stampsOn (x.length + 1) s.admission.admissionCounter)).driven s.slow.lit s.fast.lit := by
  have hslot : (s.admitAll draw x).slot e.slot = s.slot e.slot := State.slot_admitAll_of_absent hx
  have hsplit : s.admitAll draw (x ++ e :: y) = ((s.admitAll draw x).admitOne draw e).admitAll draw y := List.foldl_append
  obtain ⟨slots, haccounts⟩ := State.admitAll_eq_with (draw := draw) x s
  have hstamp (n counter : Nat) : stampsOn (n + 1) counter = min 4294967295 (stampsOn n counter + 1) :=
    Function.iterate_succ_apply' ..
  rw [hsplit, State.slot_admitAll_of_absent hy, State.slot_admit_same, hslot, haccounts, hstamp]

/-! ### The walk in the words of the state before it (R37, R38) -/

/-- The gate is open and the admissions of the entries `a` have left a position free (R37). -/
def State.freeAfter (s t : State) (a : List QueueEntry) : Prop :=
  s.admission.gate = .opened ∧ s.admission.inrushHeld + (a.filter t.ramping).length < s.admission.positions

variable (draw) in
/-- The draw fits what the admissions of the entries `a` have left (R10, R37). -/
def State.fitsAfter (s t : State) (a : List QueueEntry) (e : QueueEntry) : Prop :=
  0 < s.budget.ceiling ∧ s.budget.committed + ((a.filter t.ramping).map draw).sum + draw e ≤ s.budget.ceiling

variable (draw) in
/-- The entry ends the pass behind the entries `a` (R37). -/
def State.endsAfter (s t : State) (a : List QueueEntry) (e : QueueEntry) : Prop :=
  s.asideFor e = false ∧ (¬s.freeAfter t a ∨ (¬s.fitsAfter draw t a e ∧ s.blockedAt e))

section
variable {a b : List QueueEntry}

theorem State.Queues.judge_passAt (h : s.Queues draw (a ++ e :: b)) (t : State) :
    ((s.passAt draw t a).judge e = .admitted (draw e) ↔
      s.asideFor e = false ∧ s.freeAfter t a ∧ s.fitsAfter draw t a e) ∧
    ((s.passAt draw t a).judge e = .passEnds ↔ s.endsAfter draw t a e) := by
  obtain ⟨haside, hdraw, hfree, hfits, hblocked⟩ := h.passAt_spec t
  rw [State.judge_eq_admitted_iff hdraw, State.judge_eq_passEnds_iff hdraw, haside, hfree, hfits, hblocked]
  exact ⟨Iff.rfl, Iff.rfl⟩

/-- No entry of `a` ends the pass. -/
theorem State.Queues.goes_on_iff (h : s.Queues draw (a ++ b)) (t : State) :
    (∀ x y z, a = x ++ y :: z → (s.passAt draw t x).judge y ≠ .passEnds) ↔
      ∀ x y z, a = x ++ y :: z → ¬s.endsAfter draw t x y := by
  refine forall_congr' fun x => forall_congr' fun y => forall_congr' fun z => forall_congr' fun hcut => ?_
  rw [hcut, List.append_assoc, List.cons_append] at h
  exact not_congr (h.judge_passAt t).2

/-- Whom the walk admits (R37). -/
theorem State.Walks.ramping_iff (hw : s.Walks draw q t kept any) (hq : s.Queues draw q) (hcut : q = a ++ e :: b) :
    t.ramping e = true ↔
      s.asideFor e = false ∧ s.freeAfter t a ∧ s.fitsAfter draw t a e ∧
        ∀ x y z, a = x ++ y :: z → ¬s.endsAfter draw t x y := by
  rw [hw.decides a e b hcut]
  subst hcut
  rw [(hq.judge_passAt t).1, hq.goes_on_iff t, and_assoc, and_assoc]

/-- An entry that stays ahead of an admitted one has been passed over, unless the pass stood aside for it (R37, R38). -/
theorem State.Walks.passedOver (hw : s.Walks draw q t kept any) (hq : s.Queues draw q) (hcut : q = a ++ e :: b)
    (hstays : t.ramping e = false) (hovertaken : ∃ x ∈ b, t.ramping x = true) (haside : s.asideFor e = false) :
    (s.passAt draw t a).judge e = .passedOver ∧ ¬s.blockedAt e := by
  obtain ⟨x, hx, hramping⟩ := hovertaken
  obtain ⟨b1, b2, rfl⟩ := List.append_of_mem hx
  have hahead := ((hw.decides (a ++ e :: b1) x b2 (by rw [hcut, List.append_assoc]; rfl)).1 hramping).2
  have hgoes : (s.passAt draw t a).judge e ≠ .passEnds := hahead a e b1 rfl
  have hnot : (s.passAt draw t a).judge e ≠ .admitted (draw e) := by
    intro hadmitted
    refine Bool.eq_false_iff.1 hstays ((hw.decides a e _ hcut).2 ⟨hadmitted, fun y z c hc => ?_⟩)
    exact hahead y z (c ++ e :: b1) (by rw [hc, List.append_assoc]; rfl)
  subst hcut
  obtain ⟨hsame, hdraw, -, -, hblocked⟩ := hq.passAt_spec t
  obtain ⟨hmark, -⟩ | ⟨-, -, hends⟩ | ⟨-, -, -, hadmitted⟩ | ⟨-, -, -, hfree, hover⟩ := State.judge_cases hdraw
  · rw [hsame, haside] at hmark
    exact Bool.noConfusion hmark
  · exact absurd hends hgoes
  · exact absurd hadmitted hnot
  · exact ⟨hover, fun h => hfree (hblocked.2 h)⟩

/-- The entries that stay, and the bypass counts that are raised (R38). -/
theorem State.Walks.bypass (hw : s.Walks draw q t kept any) (hq : s.Queues draw q) :
    ∃ bypass : SlotId → Nat,
      kept = (q.filter fun e => !t.ramping e).map (fun e => { e with bypass := bypass e.slot }) ∧
      ∀ a e b, q = a ++ e :: b → t.ramping e = false →
        ((∃ x ∈ b, t.ramping x = true) → s.asideFor e = false →
          ¬s.blockedAt e ∧ bypass e.slot = min 15 (e.bypass + 1)) ∧
        (¬(∃ x ∈ b, t.ramping x = true) ∨ s.asideFor e = true → bypass e.slot = e.bypass) := by
  obtain ⟨bypass, hkept, hbypass⟩ := hw.leaves
  refine ⟨bypass, hkept, fun a e b hcut hstays => ⟨fun hovertaken haside => ?_, fun hleft => ?_⟩⟩
  · obtain ⟨hover, hfree⟩ := hw.passedOver hq hcut hstays hovertaken haside
    rw [hbypass a e b hcut hstays, hover]
    exact ⟨hfree, if_pos ⟨rfl, List.any_eq_true.2 hovertaken⟩⟩
  · rw [hbypass a e b hcut hstays]
    refine if_neg ?_
    rintro ⟨hover, hany⟩
    obtain hnone | haside := hleft
    · exact hnone (List.any_eq_true.1 hany)
    · subst hcut
      rw [← (hq.passAt_spec t).1] at haside
      rw [State.judge_of_aside haside] at hover
      exact Verdict.noConfusion hover

/-- The record of an admitted slot (R39, R55). -/
theorem State.Walks.slot_of_ramping (hw : s.Walks draw q t kept any) (hq : s.Queues draw q) (hcut : q = a ++ e :: b)
    (hramping : t.ramping e = true) :
    t.slot e.slot =
      ((s.slot e.slot).admitted (s.profiles.get (s.slot e.slot).profileIndex) (draw e)
        (stampsOn ((a.filter t.ramping).length + 1) s.admission.admissionCounter)).driven s.slow.lit s.fast.lit := by
  have hreaches : t = s.admitAll draw (a.filter t.ramping ++ e :: b.filter t.ramping) := by
    rw [← List.filter_cons_of_pos hramping, ← List.filter_append, ← hcut]
    exact hw.reaches
  subst hcut
  refine (congrArg (State.slot · e.slot) hreaches).trans ?_
  exact State.slot_admitAll_of_mem (fun x hx => hq.apart.1 x (List.mem_of_mem_filter hx))
    fun x hx => hq.apart.2 x (List.mem_of_mem_filter hx)

/-- A slot none of whose entries was admitted stands as it did. -/
theorem State.Walks.slot_of_not_ramping (hw : s.Walks draw q t kept any) {i : SlotId}
    (h : ∀ e ∈ q, e.slot = i → t.ramping e = false) : t.slot i = s.slot i := by
  refine (congrArg (State.slot · i) hw.reaches).trans (State.slot_admitAll_of_absent fun e he hi => ?_)
  obtain ⟨he, hramping⟩ := List.mem_filter.1 he
  rw [h e he hi] at hramping
  exact Bool.noConfusion hramping

/-- Beside the records, a walk moves the committed total, the positions and the admission counter alone (R39). -/
theorem State.Walks.eq_with (hw : s.Walks draw q t kept any) :
    t = { s with
      slots := t.slots
      budget.committed := s.budget.committed + ((q.filter t.ramping).map draw).sum
      admission.inrushHeld := s.admission.inrushHeld + (q.filter t.ramping).length
      admission.admissionCounter := stampsOn (q.filter t.ramping).length s.admission.admissionCounter } := by
  obtain ⟨slots, haccounts⟩ := State.admitAll_eq_with (draw := draw) (q.filter t.ramping) s
  have hwith := hw.reaches.trans haccounts
  have hslots : t.slots = slots := congrArg State.slots hwith
  rw [hslots]
  exact hwith

end

end

section
variable {s : State}

/-- A lawful slot that waits has its module's class, and so an effective draw (R9, R110). -/
theorem State.PowerHeld.draws (h : s.PowerHeld) {i : SlotId} (hwaiting : (s.slot i).power = .waiting) :
    s.effectiveDraw i =
      some (((s.slot i).overrideDraw.or ((s.slot i).moduleClass.map fun c => s.budget.classDraws.get c)).getD 0) := by
  have hlaws := h.slots i
  obtain ⟨henabled, hpresent⟩ := hlaws.service (by rw [hwaiting]; rfl)
  have hclass := hlaws.moduleClass
  rw [henabled, hpresent] at hclass
  obtain ⟨c, hc⟩ := Option.isSome_iff_exists.1 hclass
  rw [State.effectiveDraw_eq, hc]
  cases (s.slot i).overrideDraw <;> rfl

/-- The lawful queue waits, before the pass-due mark is cleared as after it. -/
theorem State.PowerHeld.queues (h : s.PowerHeld) :
    ({ s with admission.passDue := false } : State).Queues
      (fun e => ((s.slot e.slot).overrideDraw.or
        ((s.slot e.slot).moduleClass.map fun c => s.budget.classDraws.get c)).getD 0) s.admission.queue := by
  obtain ⟨hdistinct, hwaits, -⟩ := h.queue
  have hwaiting : ∀ e ∈ s.admission.queue, (s.slot e.slot).power = .waiting := fun e he => (hwaits e.slot).2 ⟨e, he, rfl⟩
  exact ⟨hdistinct, hwaiting, fun e he => h.draws (hwaiting e he)⟩

/-- Settles O37: the walk of a pass, in the words of the state before it. -/
theorem admissionPassKeepsItsPromises : Obligations.AdmissionPassKeepsItsPromises := by
  intro s hlawful hdue
  have hqueues := (s.powerLawful_iff.1 hlawful).1.queues
  have hwalks := hqueues.passWalk
  obtain ⟨bypass, hkept, hbypass⟩ := hwalks.bypass hqueues
  refine ⟨s.pass, State.happen_eq hdue rfl, fun a e b hcut => ⟨hwalks.ramping_iff hqueues hcut,
    hwalks.slot_of_ramping hqueues hcut⟩, ⟨bypass, hkept, fun e he hstays => ⟨?_, ?_⟩⟩,
    fun i hi => hwalks.slot_of_not_ramping hi, ?_⟩
  · rintro ⟨a, b, hcut, hovertaken⟩ haside
    obtain ⟨hfree, hraised⟩ := (hbypass a e b hcut hstays).1 hovertaken haside
    obtain ⟨hpolicy, hlimit⟩ := not_or.1 hfree
    refine ⟨?_, Nat.lt_of_not_le hlimit, hraised⟩
    cases hp : s.admission.policy with
    | strict => exact absurd hp hpolicy
    | fit => rfl
  · intro hleft
    obtain ⟨a, b, hcut⟩ := List.append_of_mem he
    exact (hbypass a e b hcut hstays).2 (hleft.imp_left fun hnot hbehind => hnot ⟨a, b, hcut, hbehind⟩)
  · rw [State.pass_eq]
    exact congrArg (fun t : State => ({ t with
      admission.queue := (passWalk s.admission.queue { s with admission.passDue := false }).2.1 } : State)) hwalks.eq_with

end


end Sys2Proof.Machine
end

section
set_option Elab.async false -- few threads at a time: each takes its stack from the check's memory
/-! PROOFS. Every command and every tick keeps the laws of power (R11, R12, R25, R26, R30, R46). -/
namespace Sys2Proof.Machine

/-! ### The supplies and the settings of the budget (R6, R17, R18) -/

/-- A block changes that only the ceiling depends on, and the ceiling is recomputed (R6). -/
theorem State.PowerLawful.recompute {s t : State} (h : s.PowerLawful) (hslots : t.slots = s.slots)
    (hbudget : t.budget.committed = s.budget.committed ∧ t.budget.ceiling = s.budget.ceiling)
    (hadmission : t.admission.inrushHeld = s.admission.inrushHeld ∧ t.admission.queue = s.admission.queue ∧
      t.admission.enqueueCounter = s.admission.enqueueCounter)
    (hpositions : s.admission.inrushHeld ≤ t.admission.positions ∧ 1 ≤ t.admission.positions ∧ t.admission.positions ≤ 4) :
    t.recompute.PowerLawful := by
  obtain ⟨hheld, hcovered, -⟩ := s.powerLawful_iff.1 h
  obtain ⟨hcommitted, hceiling⟩ := hbudget
  obtain ⟨hinrush, hqueue, hcounter⟩ := hadmission
  obtain ⟨-, -, -, -, hranges, -⟩ := hheld.queue
  refine State.PowerHeld.recompute (hheld.of_stands (fun i => ?_) hcommitted hinrush ?_ hpositions.2
    ⟨id, hqueue.trans (List.map_id _).symm, fun e he => ⟨rfl, rfl, rfl, rfl, rfl, (hranges e he).2.2⟩⟩ hcounter) ?_
  · rw [State.slot_eq_of_slots hslots]
    exact .refl _
  · rw [hinrush]
    exact hpositions.1
  · rw [hcommitted, hceiling]
    exact hcovered

/-- The laws of power bound the positions and what is held of them (R30). -/
theorem State.PowerHeld.positions_stay {s : State} (h : s.PowerHeld) :
    s.admission.inrushHeld ≤ s.admission.positions ∧ 1 ≤ s.admission.positions ∧ s.admission.positions ≤ 4 :=
  ⟨h.free, h.positions⟩

section
variable {s : State}

theorem State.PowerLawful.supplyChange (h : s.PowerLawful) (n : SupplyId) (good : Bool) :
    (s.supplyChange n good).PowerLawful := by
  have heffect : s.supplyChange n good = ((s.withGood n good).posting [(none, .supply)]).recompute := by
    rw [← State.occur_none_eq_posting]
    rfl
  rw [heffect]
  exact State.PowerLawful.recompute h rfl ⟨rfl, rfl⟩ ⟨rfl, rfl, rfl⟩ (s.powerLawful_iff.1 h).1.positions_stay

theorem State.PowerLawful.setSupplyRequest_fst (h : s.PowerLawful) (payload : List Byte) :
    (setSupplyRequest payload s).1.PowerLawful := by
  unfold setSupplyRequest
  split
  · split
    · dsimp only
      split
      · exact h
      · split
        · exact h
        · exact State.PowerLawful.recompute h rfl ⟨rfl, rfl⟩ ⟨rfl, rfl, rfl⟩ (s.powerLawful_iff.1 h).1.positions_stay
    · exact h
  · exact h

theorem State.PowerLawful.setBudgetRequest_fst (h : s.PowerLawful) (payload : List Byte) :
    (setBudgetRequest payload s).1.PowerLawful := by
  unfold setBudgetRequest
  split
  · split
    · exact h
    · rename_i t hread
      obtain ⟨-, -, -, -, hpositions, -⟩ := readBudgetSettings_eq_some_iff.1 hread
      obtain ⟨hrange, hk⟩ := readRange_eq_some_iff.1 hpositions
      rw [hk] at hrange
      dsimp only
      split
      · exact h
      · split
        · exact h
        · rename_i hfew
          exact State.PowerLawful.recompute h rfl ⟨rfl, rfl⟩ ⟨rfl, rfl, rfl⟩ ⟨Nat.le_of_not_lt hfew, hrange⟩
  · exact h

/-! ### The admission pass (R37, R39) -/

/-- What an admission verdict has tested (R37). -/
theorem State.judge_admitted {e : QueueEntry} {draw : Nat} (h : s.judge e = .admitted draw) :
    s.hasPosition ∧ s.budget.fits draw = true := by
  unfold State.judge at h
  split at h
  · exact Verdict.noConfusion h
  · split at h
    · exact Verdict.noConfusion h
    · rename_i hposition
      refine ⟨Classical.not_not.1 fun hnone => hposition (s.not_hasPosition_iff.1 hnone), ?_⟩
      dsimp only at h
      split at h
      · split at h
        · rename_i hfits
          obtain rfl := Verdict.admitted.inj h
          exact hfits
        · split at h <;> exact Verdict.noConfusion h
      · split at h <;> exact Verdict.noConfusion h

/-- An entry admitted leaves the queue, and its slot holds its draw and a position (R39). -/
theorem State.PowerLawful.of_admission {u : State} {pre rest : List QueueEntry} {e : QueueEntry} {draw stamp : Nat}
    {p : Profile} (h : s.PowerLawful) (hqueue : s.admission.queue = pre ++ e :: rest)
    (hfree : s.admission.inrushHeld < s.admission.positions) (hfits : s.budget.committed + draw ≤ s.budget.ceiling)
    (hslot : ((s.slot e.slot).admitted p draw stamp).Stands (u.slot e.slot)) (hothers : ∀ j ≠ e.slot, u.slot j = s.slot j)
    (hbudget : u.budget = { s.budget with committed := s.budget.committed + draw })
    (hadmission : u.admission = { s.admission with
      queue := pre ++ rest, inrushHeld := s.admission.inrushHeld + 1, admissionCounter := stamp }) : u.PowerLawful := by
  obtain ⟨hheld, -, hceiling⟩ := s.powerLawful_iff.1 h
  obtain ⟨hdistinct, hwaits, -, -, hranges, -⟩ := hheld.queue
  have hwaiting : (s.slot e.slot).power = .waiting :=
    (hwaits e.slot).2 ⟨e, by rw [hqueue]; exact List.mem_append_right pre List.mem_cons_self, rfl⟩
  have hlaws := hheld.slots e.slot
  have hempty : (s.slot e.slot).amount = 0 :=
    ((s.slot e.slot).lawful_iff.2 hlaws).amount_of_unpowered (by rw [hwaiting]; rfl)
  have hstill : (s.slot e.slot).ramps = 0 := by rw [Slot.ramps, hwaiting]; rfl
  have hsum := sum_allSlots_change (f := fun j => (u.slot j).amount) (g := fun j => (s.slot j).amount)
    fun j (hj : j ≠ e.slot) => congrArg Slot.amount (hothers j hj)
  have hcount := sum_allSlots_change (f := fun j => (u.slot j).ramps) (g := fun j => (s.slot j).ramps)
    fun j (hj : j ≠ e.slot) => congrArg Slot.ramps (hothers j hj)
  have hdrawn : (u.slot e.slot).amount = draw := hslot.amount
  have hramps : (u.slot e.slot).ramps = 1 := hslot.ramps
  have hstays : (pre ++ e :: rest).filter (fun x => decide (x.slot ≠ e.slot)) = pre ++ rest := by
    rw [hqueue, List.map_append, List.map_cons, List.nodup_middle, List.nodup_cons, ← List.map_append] at hdistinct
    have hne : ∀ x ∈ pre ++ rest, decide (x.slot ≠ e.slot) = true := fun x hx =>
      decide_eq_true fun hslot => hdistinct.1 (List.mem_map.2 ⟨x, hx, hslot⟩)
    rw [List.filter_append, List.filter_cons_of_neg (by simp), ← List.filter_append, List.filter_eq_self.2 hne]
  have hold := hheld.committed
  have hheldOld := hheld.inrushHeld
  refine (State.powerLawful_iff u).2 ⟨⟨fun j => ?_, ?_, ?_, ?_, ?_, ?_⟩, ?_, ?_⟩
  · by_cases hj : j = e.slot
    · exact hj ▸ hslot.laws (hlaws.admitted hwaiting p draw stamp)
    · rw [hothers j hj]
      exact hheld.slots j
  · rw [hbudget]
    dsimp only
    omega
  · rw [hadmission]
    dsimp only
    omega
  · rw [hadmission]
    exact hfree
  · rw [hadmission]
    exact hheld.positions
  · refine hheld.queue.of_filter_map (stays := fun x => decide (x.slot ≠ e.slot)) (f := id) ?_
      (fun x hx => ⟨rfl, rfl, rfl, rfl, rfl, (hranges x hx).2.2⟩) (by rw [hadmission]) (fun j => ?_) fun x _ hx => ?_
    · rw [hadmission, List.map_id, hqueue, hstays]
    · by_cases hj : j = e.slot
      · subst hj
        rw [hslot.power]
        refine iff_of_false PowerState.noConfusion ?_
        rintro ⟨x, -, hx, hne⟩
        exact of_decide_eq_true hne hx
      · rw [hothers j hj, hwaits j]
        constructor
        · rintro ⟨x, hx, hxj⟩
          exact ⟨x, hx, hxj, decide_eq_true (hxj ▸ hj)⟩
        · rintro ⟨x, hx, hxj, -⟩
          exact ⟨x, hx, hxj⟩
    · rw [hothers x.slot (of_decide_eq_true hx)]
      exact ⟨rfl, rfl⟩
  · rw [hbudget]
    exact hfits
  · rw [hbudget]
    exact hceiling

/-- One entry of the walk, admitted. -/
theorem State.PowerLawful.admits (h : s.PowerLawful) {pre rest : List QueueEntry} {e : QueueEntry} {draw : Nat}
    (hqueue : s.admission.queue = pre ++ e :: rest) (hjudge : s.judge e = .admitted draw) :
    ({ s.admitSlot e.slot draw with admission.queue := pre ++ rest } : State).PowerLawful := by
  obtain ⟨⟨-, hfree⟩, hfits⟩ := State.judge_admitted hjudge
  refine h.of_admission (p := s.profiles.get (s.slot e.slot).profileIndex)
    (stamp := min 4294967295 (s.admission.admissionCounter + 1)) hqueue hfree ((s.budget.fits_iff draw).1 hfits).2 ?_
    (fun j hj => State.slot_admit_ne (draw := fun _ => draw) hj) ?_ ?_
  · have hslot := State.slot_admit_same (s := s) (draw := fun _ => draw) e
    exact hslot ▸ .written _ _ _ _
  · rw [s.admitSlot_eq_becomes]
    rfl
  · rw [s.admitSlot_eq_becomes]
    rfl

/-- An entry's bypass count is raised, to at most 15 (R38). -/
theorem State.PowerLawful.bumps (h : s.PowerLawful) {pre rest : List QueueEntry} {e e' : QueueEntry}
    (hqueue : s.admission.queue = pre ++ e :: rest) (hstands : e.Stands e') :
    ({ s with admission.queue := pre ++ e' :: rest } : State).PowerLawful := by
  obtain ⟨hheld, hcovered, hceiling⟩ := s.powerLawful_iff.1 h
  obtain ⟨hdistinct, -, -, -, hranges, -⟩ := hheld.queue
  rw [hqueue, List.map_append, List.map_cons, List.nodup_middle, List.nodup_cons, ← List.map_append] at hdistinct
  have hne : ∀ x ∈ pre ++ rest, (if x = e then e' else x) = x := fun x hx =>
    if_neg fun hxe => hdistinct.1 (List.mem_map.2 ⟨x, hx, by rw [hxe]⟩)
  refine (State.powerLawful_iff _).2 ⟨hheld.of_stands (fun _ => .refl _) rfl rfl hheld.free hheld.positions
    ⟨fun x => if x = e then e' else x, ?_, fun x hx => ?_⟩ rfl, hcovered, hceiling⟩
  · have hpre := List.map_congr_left fun x hx => hne x (List.mem_append_left rest hx)
    have hrest := List.map_congr_left fun x hx => hne x (List.mem_append_right pre hx)
    rw [List.map_id'] at hpre hrest
    show pre ++ e' :: rest = _
    rw [hqueue, List.map_append, List.map_cons, hpre, hrest, if_pos rfl]
  · show x.Stands (if x = e then e' else x)
    split
    · rename_i hxe
      exact hxe ▸ hstands
    · exact ⟨rfl, rfl, rfl, rfl, rfl, (hranges x hx).2.2⟩

/-- The walk of a pass, the entries it has left standing ahead of those it considers (R37, R38). -/
theorem State.PowerLawful.passWalk : ∀ (q pre : List QueueEntry) {s : State},
    ({ s with admission.queue := pre ++ q } : State).PowerLawful →
    ({ (passWalk q s).1 with admission.queue := pre ++ (passWalk q s).2.1 } : State).PowerLawful
  | [], _, _, h => h
  | e :: rest, pre, s, h => by
    have hpast (h : ({ s with admission.queue := pre ++ e :: rest } : State).PowerLawful) :=
      State.PowerLawful.passWalk rest (pre ++ [e]) (s := s)
        (by rw [List.append_assoc]; exact h)
    have hranges := (State.powerLawful_iff _).1 h |>.1.queue.2.2.2.2.1
    unfold Sys2Proof.Machine.passWalk
    split
    · have hw := hpast h
      rw [List.append_assoc] at hw
      exact hw
    · exact h
    · rename_i draw hj
      have hadmits := State.PowerLawful.admits h rfl (e := e) (draw := draw) hj
      exact State.PowerLawful.passWalk rest pre (s := s.admitSlot e.slot draw) (by
        rw [s.admitSlot_eq_becomes]
        rw [State.admitSlot_eq_becomes] at hadmits
        exact hadmits)
    · have hw := hpast h
      rw [List.append_assoc] at hw
      have hby := (hranges e (List.mem_append_right pre List.mem_cons_self)).2.2
      refine State.PowerLawful.bumps hw rfl ?_
      split
      · exact ⟨rfl, rfl, rfl, rfl, rfl, satInc_le⟩
      · exact ⟨rfl, rfl, rfl, rfl, rfl, hby⟩

theorem State.PowerLawful.pass (h : s.PowerLawful) : s.pass.PowerLawful := by
  rw [State.pass_eq]
  exact State.PowerLawful.passWalk s.admission.queue [] (s := { s with admission.passDue := false }) h


/-! ### The restarts (chapter 11) -/

/-- Supplies none of which is good give a ceiling of 0 (R4, R5). -/
theorem ceilingFor_of_no_good {ps : Vector Supply 4} (h : ∀ n, (ps.get n).line.held = false) :
    ceilingFor ps 0 .full = 0 := by
  have hnone : ∀ n, (ps.get n).share = ((Vector.replicate 4 Supply.reset).get n).share := fun n => by
    rw [Supply.share_of_not_good (h n), Supply.share_of_not_good]
    exact congrArg (fun p : Supply => p.line.held) (Vector.getElem_replicate n.isLt)
  rw [ceilingFor_congr hnone]
  decide

theorem State.powerOnReset_powerLawful (s : State) (rateA rateB : Bool) : (s.powerOnReset rateA rateB).PowerLawful := by
  have hslot (i : SlotId) : (s.powerOnReset rateA rateB).slot i =
      { Slot.reset with lines := (s.slot i).lines.firstSamples } :=
    State.slot_of_map (f := fun sl => { Slot.reset with lines := sl.lines.firstSamples }) rfl i
  refine State.powerLawful_of_vacant (fun i => ?_) ⟨rfl, ?_⟩ ⟨rfl, rfl, Nat.zero_le _⟩ (by decide : 1 ≤ 2 ∧ 2 ≤ 4)
  · rw [hslot]
    exact ⟨⟨rfl, forall_mem_none, rfl, rfl, nofun, fun _ => .inr rfl, nofun, nofun, fun _ => ⟨rfl, rfl⟩,
      fun _ => ⟨rfl, rfl, rfl⟩, rfl⟩, rfl⟩
  · refine (ceilingFor_of_no_good fun n => ?_).symm
    exact congrArg (fun p : Supply => p.line.held) (Vector.get_map_supply s.budget.supplies _ n)

theorem State.PowerLawful.fullRestart (h : s.PowerLawful) : s.fullRestart.PowerLawful := by
  obtain ⟨-, -, -, -, -, htop⟩ := (s.powerLawful_iff.1 h).1.queue
  have hslot (i : SlotId) : s.fullRestart.slot i = { (s.slot i).fullRestart s.part.frozen with pendingSet := 0 } := by
    rw [State.fullRestart, State.restartEvents_eq_with]
    refine State.slot_of_map (f := fun sl => { sl.fullRestart s.part.frozen with pendingSet := 0 }) ?_ i
    exact Vector.map_map
  have hlaws (i : SlotId) : (s.fullRestart.slot i).Lawful ∧ (s.fullRestart.slot i).power = .vacant := by
    rw [hslot]
    exact ⟨⟨rfl, forall_mem_none, rfl, (Bool.and_false _).symm, nofun, fun _ => .inr rfl, nofun, nofun,
      fun _ => ⟨rfl, rfl⟩, fun _ => ⟨rfl, rfl, rfl⟩, rfl⟩, rfl⟩
  rw [State.fullRestart, State.restartEvents_eq_with] at hlaws ⊢
  exact State.powerLawful_of_vacant hlaws ⟨rfl, rfl⟩ ⟨rfl, rfl, htop⟩ (by decide : 1 ≤ 2 ∧ 2 ≤ 4)

/-- What a lawful slot holds after a ride-through restart: its draw in ON, and nothing elsewhere (R185). -/
theorem Slot.Laws.riddenThrough {sl : Slot} (h : sl.Laws) (now : Word32) :
    (sl.riddenThrough now).Laws ∧ (sl.riddenThrough now).power ≠ .waiting ∧ (sl.riddenThrough now).ramps = 0 ∧
      (sl.riddenThrough now).amount = if decide (sl.power = .on) then sl.amount else 0 := by
  rw [(sl.lawful_iff.2 h).riddenThrough_eq]
  split
  · rename_i hcut
    obtain ⟨hpower, hon⟩ := hcut
    have hoff := h.off_idle hpower
    rw [decide_eq_false hon]
    exact ⟨{ hoff with holdOff := nofun, lockTimer := rfl }, PowerState.noConfusion, rfl, rfl⟩
  · rename_i hcut
    split
    · rename_i hwaiting
      have hidle := h.waiting_to_idle hwaiting
      have hnone : sl.commitment = none := h.commitment_eq_none (by rw [hwaiting]; rfl)
      rw [hwaiting]
      refine ⟨{ hidle with holdOff := nofun, lockTimer := rfl }, PowerState.noConfusion, rfl, ?_⟩
      show Slot.amount { sl.uncontrolled with power := .idle, operation := none } = 0
      rw [Slot.amount, show ({ sl.uncontrolled with power := .idle, operation := none } : Slot).commitment = none from hnone]
    · rename_i hwaiting
      obtain ⟨hpower, hcommitment⟩ := sl.uncontrolled.ended_power .discarded now
      have hallows : sl.power.allows none = true ∧ sl.power.inrush = false := by
        revert hcut hwaiting
        cases sl.power <;> decide
      have hended : ({ sl.uncontrolled with operation := none } : Slot).Laws :=
        { h with operation := hallows.1, holdOff := nofun, lockTimer := rfl }
      have hamount : (sl.uncontrolled.ended .discarded now).amount = sl.amount := by
        rw [Slot.amount, hcommitment]
        rfl
      refine ⟨hended.ended _ _, fun hw => hwaiting (hpower.symm.trans hw), ?_, ?_⟩
      · rw [Slot.ramps, hpower]
        exact if_neg (Bool.eq_false_iff.1 hallows.2)
      · rw [hamount]
        split
        · rfl
        · rename_i hon
          refine (sl.lawful_iff.2 h).amount_of_unpowered ?_
          by_contra hpowered
          exact hcut ⟨Bool.eq_true_of_not_eq_false hpowered, fun h => hon (decide_eq_true h)⟩

/-- A ride-through restart of a lawful state leaves a lawful one (R185). -/
theorem State.PowerLawful.rideThrough (h : s.PowerLawful) (cause : RestartCause) : (s.rideThrough cause).PowerLawful := by
  obtain ⟨hheld, hcovered, hceiling⟩ := s.powerLawful_iff.1 h
  have hblocks := h.rideThrough_blocks cause
  have hbudget : (s.rideThrough cause).budget = { s.budget with
      committed := ((allSlots.filter fun i => decide ((s.slot i).power = .on)).map fun i => (s.slot i).amount).sum } :=
    congrArg State.budget hblocks
  have hadmission : (s.rideThrough cause).admission = { s.admission with queue := [], inrushHeld := 0, passDue := false } :=
    congrArg State.admission hblocks
  have hridden (i : SlotId) := (hheld.slots i).riddenThrough s.part.uptime
  have hslot (i : SlotId) : ((s.slot i).riddenThrough s.part.uptime).Stands ((s.rideThrough cause).slot i) := by
    rw [(s.rideThrough_eq cause).2 i]
    exact ⟨fun hl => { hl with }, rfl, rfl, rfl, rfl⟩
  have hamount (i : SlotId) : ((s.rideThrough cause).slot i).amount =
      if decide ((s.slot i).power = .on) then (s.slot i).amount else 0 := (hslot i).amount.trans (hridden i).2.2.2
  have hsum : (s.rideThrough cause).budget.committed =
      (allSlots.map fun i => if decide ((s.slot i).power = .on) then (s.slot i).amount else 0).sum := by
    rw [hbudget]
    exact sum_map_filter_eq _ _ _
  obtain ⟨-, -, -, -, -, htop⟩ := hheld.queue
  refine (State.powerLawful_iff _).2 ⟨⟨fun i => (hslot i).laws (hridden i).1, ?_, ?_, ?_, ?_, ?_⟩, ?_, ?_⟩
  · rw [hsum]
    exact congrArg List.sum (List.map_congr_left fun i _ => (hamount i).symm)
  · rw [hadmission]
    refine (List.sum_eq_zero fun x hx => ?_).symm
    obtain ⟨i, -, rfl⟩ := List.mem_map.1 hx
    exact (hslot i).ramps.trans (hridden i).2.2.1
  · rw [hadmission]
    exact Nat.zero_le _
  · rw [hadmission]
    exact hheld.positions
  · refine ⟨?_, fun i => ?_, ?_, ?_, ?_, ?_⟩ <;> rw [hadmission]
    · exact List.nodup_nil
    · rw [(hslot i).power]
      exact iff_of_false (hridden i).2.1 (by simp)
    · exact List.forall_mem_nil _
    · exact List.Pairwise.nil
    · exact List.forall_mem_nil _
    · exact htop
  · rw [hsum, hbudget]
    refine le_trans ?_ hcovered
    rw [hheld.committed]
    refine List.sum_le_sum fun i _ => ?_
    split
    · exact Nat.le_refl _
    · exact Nat.zero_le _
  · rw [hbudget]
    exact hceiling

theorem State.PowerLawful.requestedRestart (h : s.PowerLawful) : s.requestedRestart.PowerLawful := by
  unfold State.requestedRestart
  split
  · exact h.rideThrough _
  · exact h.fullRestart
  · exact h
  · exact h

end

/-! ### Every command -/

section
variable {s : State}

theorem State.PowerLawful.of_keeps {r : Result} (h : ∃ t, r = .next t ∧ s.KeepsPower t) (hs : s.PowerLawful) :
    ∃ t, r = .next t ∧ t.PowerLawful :=
  h.imp fun _ ⟨hr, ht⟩ => ⟨hr, ht.lawful hs⟩

theorem State.PowerLawful.finish (h : s.PowerLawful) : s.finish.PowerLawful := (State.KeepsPower.refl s).finish.lawful h

theorem State.PowerLawful.happen {arises : Bool} {effect : State} (h : s.PowerLawful)
    (heffect : arises = true → effect.PowerLawful) : ∃ t, s.happen arises effect = .next t ∧ t.PowerLawful := by
  obtain ⟨harises, hdone⟩ | ⟨-, hnone⟩ := s.happen_cases arises effect
  · exact ⟨_, hdone, (heffect harises).finish⟩
  · exact ⟨s, hnone, h⟩

/-- The execution of a request keeps the laws if its body does (R162). -/
theorem State.PowerLawful.execute (h : s.PowerLawful) (tag kind : Byte) (payload : List Byte)
    {body : State → State × List Byte} (hbody : (body s).1.PowerLawful) :
    (s.execute tag kind payload body).PowerLawful := by
  obtain ⟨-, hdone⟩ | ⟨-, hnone⟩ := s.execute_cases tag kind payload body
  · rw [hdone]
    exact State.PowerLawful.finish (((State.KeepsPower.refl (body s).1).of_frame rfl rfl rfl).lawful hbody)
  · rw [hnone]
    exact h

theorem State.PowerLawful.executes (h : s.PowerLawful) {tag kind : Byte} {payload : List Byte}
    {body : State → State × List Byte} (hbody : s.KeepsPower (body s).1) : (s.execute tag kind payload body).PowerLawful :=
  h.execute tag kind payload (hbody.lawful h)

theorem State.PowerLawful.execBadKind (h : s.PowerLawful) (tag kind : Byte) (payload : List Byte) :
    ∃ t, execBadKind tag kind payload s = .next t ∧ t.PowerLawful := by
  unfold Machine.execBadKind
  split
  · exact ⟨_, rfl, h.executes (.refl s)⟩
  · exact ⟨s, rfl, h⟩

/-- The end of a frame frees the line and makes an offer or a restart due. -/
theorem State.KeepsPower.endFrame (s : State) : s.KeepsPower s.endFrame := by
  unfold State.endFrame
  split
  · exact .refl s
  · split <;> exact (State.KeepsPower.refl s).of_frame rfl rfl rfl

/-- Every command answers a next state, and the laws of power are kept. -/
theorem State.PowerLawful.exec (h : s.PowerLawful) (c : Instr) : ∃ t, exec c s = .next t ∧ t.PowerLawful := by
  have hheld := (s.powerLawful_iff.1 h).1
  have hs := State.KeepsPower.refl s
  cases c with
  | identify tag payload => exact ⟨_, rfl, h.executes (.identifyRequest_fst s payload)⟩
  | grant tag payload => exact ⟨_, rfl, h.executes (.grantRequest_fst s payload)⟩
  | readLink tag payload => exact ⟨_, rfl, h.executes (.readLinkRequest_fst s payload)⟩
  | setNotices tag payload => exact ⟨_, rfl, h.executes (.setNoticesRequest_fst s payload)⟩
  | readSlot tag payload => exact ⟨_, rfl, h.executes (.readSlotRequest_fst s payload)⟩
  | readQueue tag payload => exact ⟨_, rfl, h.executes (.readQueueRequest_fst s payload)⟩
  | readBudget tag payload => exact ⟨_, rfl, h.executes (.readBudgetRequest_fst s payload)⟩
  | readEvents tag payload => exact ⟨_, rfl, h.executes (.readEventsRequest_fst s payload)⟩
  | ackEvents tag payload => exact ⟨_, rfl, h.executes (.ackEventsRequest_fst s payload)⟩
  | readProfile tag payload => exact ⟨_, rfl, h.executes (.readProfileRequest_fst s payload)⟩
  | powerOn tag payload => exact ⟨_, rfl, h.executes (.powerOnRequest_fst s payload)⟩
  | powerOff tag payload => exact ⟨_, rfl, h.executes (.powerOffRequest_fst s payload)⟩
  | clearFault tag payload => exact ⟨_, rfl, h.executes (.clearFaultRequest_fst s payload)⟩
  | lock tag payload => exact ⟨_, rfl, h.executes (.lockRequest_fst s rfl payload)⟩
  | unlock tag payload => exact ⟨_, rfl, h.executes (.lockRequest_fst s rfl payload)⟩
  | setIndicator tag payload => exact ⟨_, rfl, h.executes (.setIndicatorRequest_fst s payload)⟩
  | setSlot tag payload => exact ⟨_, rfl, h.executes (.setSlotRequest_fst s payload)⟩
  | setHardware tag payload => exact ⟨_, rfl, h.executes (.setHardwareRequest_fst s payload)⟩
  | setSupply tag payload => exact ⟨_, rfl, h.execute _ _ _ (h.setSupplyRequest_fst payload)⟩
  | setBudget tag payload => exact ⟨_, rfl, h.execute _ _ _ (h.setBudgetRequest_fst payload)⟩
  | setProfile tag payload => exact ⟨_, rfl, h.executes (.setProfileRequest_fst s payload)⟩
  | setClasses tag payload => exact ⟨_, rfl, h.executes (.setClassesRequest_fst s payload)⟩
  | setBlink tag payload => exact ⟨_, rfl, h.executes (.setBlinkRequest_fst s payload)⟩
  | gate tag payload => exact ⟨_, rfl, h.executes (.gateRequest_fst s payload)⟩
  | freeze tag payload => exact ⟨_, rfl, h.executes (.freezeRequest_fst s payload)⟩
  | restart tag payload => exact ⟨_, rfl, h.executes (.restartRequest_fst s payload)⟩
  | badKind tag kind payload => exact h.execBadKind tag kind payload
  | byteReceived b => exact ⟨_, rfl, (hs.withPort _).finish.lawful h⟩
  | characterWithoutStopBit => exact ⟨_, rfl, (hs.withPort _).finish.lawful h⟩
  | gapAbort => exact h.happen fun _ => (hs.withPort _).lawful h
  | linkReset => exact ⟨_, rfl, (hs.of_frame rfl rfl rfl).lawful h⟩
  | frameEnd => exact h.happen fun _ => (State.KeepsPower.endFrame s).lawful h
  | supplyGoodChange n good => exact h.happen fun _ => h.supplyChange n good
  | admissionPass => exact h.happen fun _ => h.pass
  | auxGoodRises i => exact h.happen fun _ => (State.KeepsPower.auxGoodRise s i).lawful h
  | mainGoodRises i => exact h.happen fun _ => (State.KeepsPower.mainGoodRise s i).lawful h
  | settleTimeEnds i => exact h.happen fun harises => (hs.endSettle i (of_decide_eq_true harises).1).lawful h
  | readyRises i => exact h.happen fun _ => (State.KeepsPower.readyRise s i).lawful h
  | stageDueEnd i => exact h.happen fun _ => (State.KeepsPower.stageEnd s i).lawful h
  | stageDeadlineExpiry i => exact h.happen fun _ => (State.KeepsPower.deadlineExpiry s i).lawful h
  | readyFalls i => exact h.happen fun _ => (State.KeepsPower.readyFall s i).lawful h
  | drainGraceExpiry i =>
    refine h.happen fun harises => (hs.endDrain i _ ?_).lawful h
    rw [(of_decide_eq_true harises).1]
    rfl
  | drainDueEnd i =>
    refine h.happen fun harises => (hs.endDrain i _ ?_).lawful h
    rw [of_decide_eq_true (Bool.and_eq_true_iff.1 harises).2]
    rfl
  | faultLineRises i => exact ⟨_, rfl, (State.KeepsPower.faultLineRise s i).finish.lawful h⟩
  | overcurrentDue i => exact h.happen fun _ => (State.KeepsPower.dueOvercurrent s i).lawful h
  | railGoodFalls i rail => exact h.happen fun _ => (State.KeepsPower.railFall s i rail).lawful h
  | railLostDue i rail => exact h.happen fun _ => (State.KeepsPower.dueRailLost s i rail).lawful h
  | insertion i class0 class1 => exact State.PowerLawful.of_keeps (State.KeepsPower.insertion s hheld i class0 class1) h
  | removal i => exact State.PowerLawful.of_keeps (State.KeepsPower.removal s hheld i) h
  | leverChange i closed => exact h.happen fun _ => (State.KeepsPower.leverChange s i closed).lawful h
  | buttonPress i => exact ⟨_, rfl, (State.KeepsPower.buttonPress s i).finish.lawful h⟩
  | holdOffExpiry i => exact h.happen fun _ => (State.KeepsPower.windowExpires s i).lawful h
  | lockSenseChange i engaged => exact h.happen fun _ => (State.KeepsPower.lockSenseChange s i engaged).lawful h
  | lockDeadlineExpiry i =>
    exact h.happen fun harises => (hs.endLock i _ (Bool.and_eq_true_iff.1 harises).2).lawful h
  | lockDueEnd i => exact h.happen fun _ => (State.KeepsPower.dueLockEnd s i).lawful h
  | blinkPeriodBoundary p => exact h.happen fun _ => (State.KeepsPower.changePattern s p _).lawful h
  | blinkOnTimeEnd p => exact h.happen fun _ => (State.KeepsPower.changePattern s p _).lawful h
  | powerOnReset rateA rateB => exact ⟨_, rfl, s.powerOnReset_powerLawful rateA rateB⟩
  | restartLineRise =>
    have hline : ({ s with part.restartLine := .take true } : State).PowerLawful := (hs.of_frame rfl rfl rfl).lawful h
    exact ⟨_, rfl, (hline.rideThrough _).finish⟩
  | requestedRestart => exact h.happen fun _ => h.requestedRestart

/-- Settles O57: a step is a command, a happening or a tick (log 1), and each keeps the laws of power. -/
theorem powerIsKept : Obligations.PowerIsKept := by
  intro s s' hlawful hstep
  have hexec : ∀ {u : State} {c : Instr}, Machine.exec c u = .next s' → u.PowerLawful → s'.PowerLawful := by
    intro u c hc hu
    obtain ⟨t, ht, hkept⟩ := hu.exec c
    obtain rfl : t = s' := by simpa [ht] using hc
    exact hkept
  obtain ⟨c, rest, -, hc⟩ | ⟨-, u, hu, hmove⟩ := step_cases hstep
  · exact hexec hc (((State.KeepsPower.refl s).of_frame rfl rfl rfl).lawful hlawful)
  · have hu : u.PowerLawful := by
      obtain rfl | rfl := hu
      · exact hlawful
      · exact ((State.KeepsPower.refl s).of_frame rfl rfl rfl).lawful hlawful
    obtain ⟨c, -, hc⟩ | ⟨-, rfl⟩ := hmove
    · exact hexec hc hu
    · exact ((State.KeepsPower.refl u).tick).lawful hu

end

end Sys2Proof.Machine
end
